-- ==== Sys2Proof/Word.lean ====
section
/-! DEFINITION. The widths and index types of the Jurgal 1402 (00_scope.md, "The chassis the controller runs"),
tables of fixed length, and the plainest arithmetic on them. -/

namespace Sys2Proof

/-- One byte of a management-link frame or of an identity block (12_frame_and_record_layouts.md). -/
abbrev Byte := BitVec 8

/-- Blade slots 0–13. -/
abbrev SlotId := Fin 14
/-- Supply bays 0–5 (grid A is 0–2, grid B is 3–5). -/
abbrev SupplyBay := Fin 6
/-- Fan bays 0–7 (zone k owns bays 2k and 2k+1). -/
abbrev FanBay := Fin 8
/-- Fan zones 0–3. -/
abbrev ZoneId := Fin 4
/-- Uplink bays 0–3. -/
abbrev UplinkBay := Fin 4
/-- Lanes 0–27: lane = 2 × slot + side. -/
abbrev LaneId := Fin 28
/-- Management links: 0–13 slot links, 14 and 15 the supervisor links. -/
abbrev Port := Fin 16
/-- Sensor channels: 0–1 inlet, 2–5 exhaust, 6–19 slot power. -/
abbrev Channel := Fin 20
/-- Inventory record numbers: 0–13 blade, 14–19 supply, 20–27 fan, 28–31 uplink (R148). -/
abbrev RecNo := Fin 32

/-- `v` with entry `i` replaced by `x`. -/
def put {α : Type} {n : Nat} (v : Vector α n) (i : Fin n) (x : α) : Vector α n := v.set i.val x i.isLt

/-- The table whose entry `i` is `f i`. -/
def tabulate {α : Type} {n : Nat} (f : Fin n → α) : Vector α n := Vector.ofFn f

/-- `v` with bit `i` made `b`. -/
def setBit {n : Nat} (v : BitVec n) (i : Nat) (b : Bool) : BitVec n :=
  if b then v ||| BitVec.twoPow n i else v &&& ~~~(BitVec.twoPow n i)

/-- The nearest value of `lo … hi` (00_scope.md, "Settings"). -/
def clamp (lo hi x : Nat) : Nat := max lo (min hi x)

/-- The nearest value of `lo … hi`, for temperatures. -/
def clampInt (lo hi x : Int) : Int := max lo (min hi x)

/-- All indexes of a table, in ascending order. -/
def indexes (n : Nat) : List (Fin n) := List.finRange n

end Sys2Proof
end

