-- ==== Sys2Proof/Syntax.lean ====
section
/-! DEFINITION. The commands of the block: one constructor of `Instr` for each row of spec/opcode_table.json, with the
operands its rule names. The first 57 are SERVICES of a request that the engine has taken (R167); the rest are arrivals,
line changes, timer expiries and deliveries. A service names the CONTENTS of its request in the words of its rule; the
port it serves, and the payload bytes, are those the engine holds (log entry 2). -/

namespace Sys2Proof

/-- A flag as a request carries it: "on" or "set", "off" or "clear", or a value that is neither (refused with RANGE by
the owning rule). The code of each is not in the manual, so it is not a number here. -/
inductive FlagArg where
  | on | off | other
  deriving DecidableEq, Repr

/-- A source name as a request carries it (R41, R42). -/
inductive SourceArg where
  | urgent | queue | admission | other
  deriving DecidableEq, Repr

/-- A redundancy mode as Set Budget Policy carries it (R60). -/
inductive ModeArg where
  | none | nPlus1 | nPlusN | other
  deriving DecidableEq, Repr

/-- The mode of Load Admission Group (R33). -/
inductive LoadModeArg where
  | replace | merge | other
  deriving DecidableEq, Repr

/-- A start mode as Configure Sequencer carries it (R43). -/
inductive StartModeArg where
  | preempt | wait | other
  deriving DecidableEq, Repr

/-- The queue trigger source as Configure Sequencer carries it (R43). -/
inductive TriggerArg where
  | off | sync | other
  deriving DecidableEq, Repr

/-- The scan source as Set Scan carries it (R92). -/
inductive ScanSourceArg where
  | periodic | sync | request | other
  deriving DecidableEq, Repr

/-- The contents of Announce but for its slot byte, which R166 holds equal to the port (R5, section 12.2). -/
structure AnnounceArgs where
  model : BitVec 16
  revision : Byte
  floor : BitVec 16
  maximum : BitVec 16
  fabricA : Byte
  fabricB : Byte
  serial : List Byte
  deriving DecidableEq, Repr

/-- One place of Queue Power On (R30). -/
structure PlaceArg where
  slot : Byte
  waitTrigger : FlagArg
  notify : FlagArg
  deriving DecidableEq, Repr

/-- The full set of policy values of Set Slot Policy (R19). -/
structure SlotPolicyArgs where
  tier : Nat
  autoPowerOn : FlagArg
  mayRequest : FlagArg
  shutdownTimeout : Nat
  resetDelay : Nat
  resetWidth : Nat
  deriving DecidableEq, Repr

/-- The full set of settings of Set Budget Policy (R60). -/
structure BudgetArgs where
  mode : ModeArg
  derate : Nat
  overhead : Nat
  threshold : Nat
  autoRestore : FlagArg
  shedTimeout : Nat
  deriving DecidableEq, Repr

/-- The three settings of one source in Configure Sequencer (R43). -/
structure SourceArgs where
  enable : FlagArg
  priority : Nat
  mode : StartModeArg
  deriving DecidableEq, Repr

/-- The full set of settings of Configure Sequencer (R43). -/
structure SequencerArgs where
  urgent : SourceArgs
  queue : SourceArgs
  admission : SourceArgs
  trigger : TriggerArg
  prechargeTime : Nat
  inrushGap : Nat
  deriving DecidableEq, Repr

/-- One point of a zone curve as Set Zone Curve carries it (R99). -/
structure PointArg where
  t : Int
  d : Nat
  deriving DecidableEq, Repr

/-- The full set of settings of Set Zone Limits (R100, section 6.3). -/
structure ZoneLimitArgs where
  floorDuty : Nat
  riseLimit : Nat
  fallLimit : Nat
  failoverDuty : Nat
  staleDuty : Nat
  inletLimit : Int
  inletBoost : Nat
  saturationSteps : Nat
  reliefSteps : Nat
  critical : Int
  deriving DecidableEq, Repr

/-- One entry of Load Service Table (R165). -/
structure EntryArg where
  port : Byte
  vacant : Bool
  last : Bool
  deriving DecidableEq, Repr

/-- The levels of the chassis lines (00_scope.md, "Lines and buses"), one bit per slot or bay, true for asserted; for the
ejector latch, true for open; two bits of `straps` per fan bay, bay b at bits 2b+1 and 2b. -/
structure Lines where
  presence : BitVec 14
  latchOpen : BitVec 14
  powerGood : BitVec 14
  overcurrent : BitVec 14
  supplyPresent : BitVec 6
  outputGood : BitVec 6
  straps : BitVec 16
  uplinkPresent : BitVec 4
  linkUp : BitVec 4
  moduleFault : BitVec 4
  tripInput : Bool
  resetInput : Bool
  deriving DecidableEq, Repr

/-- What the sensor bus brings at the end of a channel's 2 ms (R89): nothing well-formed in time, a temperature, or a power. -/
inductive SensorAnswer where
  | failed
  | celsius (t : Int)
  | watts (p : Nat)
  deriving DecidableEq, Repr

/-- The commands. Each constructor's row is in LAWS.json. -/
inductive Instr where
  /- requests of a slot link (R5, R21, R12, R22, R23) -/
  | announce (a : AnnounceArgs)
  | requestPowerOn
  | releasePower
  | reportDemand (m : Nat) (c : Byte)
  | readOwnSlot
  /- requests of any link (R174, R175, R170) -/
  | selectConditions (set clear : BitVec 16)
  | fetchNotices
  | readChassisSummary
  /- reads of either supervisor (R23, R61, R45, R113, R93, R145, R156) -/
  | readSlot (slot : Byte)
  | readSupply (bay : Byte)
  | readBudget
  | readSequencer
  | readZone (zone : Byte)
  | readFan (bay : Byte)
  | readSensor (selector : Byte)
  | readLane (selector : Byte)
  | readBay (selector : Byte)
  | readInventoryRecord (selector : Byte)
  /- primacy and Scan Now (R168, R169, R86) -/
  | claimPrimacy (period : Option Byte)
  | releasePrimacy
  | scanNow
  /- policy of the primary (R60, R19, R20) -/
  | setBudgetPolicy (p : BudgetArgs)
  | setSlotPolicy (slot : Byte) (p : SlotPolicyArgs)
  | setSlotHold (slot : Byte) (hold : FlagArg)
  | setSlotZoneMap (zones : Vector Byte 14)
  /- the sequencer (R29, R30, R35, R32, R33, R43, R44, R41, R42) -/
  | powerOnNow (slot : Byte) (notify : FlagArg)
  | queuePowerOn (places : List PlaceArg)
  | stepSequence
  | editAdmissionGroup (set clear : BitVec 16)
  | loadAdmissionGroup (mode : LoadModeArg)
  | configureSequencer (p : SequencerArgs)
  | pauseSequencer (pause : FlagArg)
  | removeNext (source : SourceArg)
  | flushSource (source : SourceArg)
  /- a slot's power, reset and fault (R11, R14, R17, R10) -/
  | powerOff (slot : Byte)
  | forceOff (slot : Byte)
  | pulseReset (slot : Byte)
  | clearFault (slot : Byte)
  /- cooling (R99, R100, R117, R122, R108, R112) -/
  | setZoneCurve (zone : Byte) (points : Vector PointArg 4)
  | setZoneLimits (zone : Byte) (limits : ZoneLimitArgs)
  | characteriseFan (bay : Byte)
  | stopCharacterisation
  | clearFanFault (bay : Byte)
  | clearThermalTrip
  /- the scanner (R92, R90) -/
  | setScan (source : ScanSourceArg) (period : Nat)
  | editChannelSet (set clear : BitVec 24)
  /- lanes (R142, R143, R144) -/
  | setLanePreference (lane count : Byte) (bays : Vector Byte 4)
  | editLaneEnable (set clear : BitVec 32)
  | setFailback (failback : FlagArg)
  | setLinkHold (hold : BitVec 16)
  | setMoveTime (time : Byte)
  /- inventory, links, notices, restart (R155, R165, R164, R176, R171) -/
  | rereadIdentity (record : Byte)
  | loadServiceTable (bank : Byte) (entries : List EntryArg)
  | swapServiceTable
  | setPortPriority (high : BitVec 16)
  | postNotice (ports : BitVec 16)
  | restartController
  /- the links (R160, R159, R163, R161, R169) -/
  | requestFrame (port : Port) (frame : List Byte)
  | overlongLengthDiscard (port : Port) (kind length : Byte)
  | interByteTimeout (port : Port)
  | take
  | responseSent (port : Port) (lines : Lines)
  | primacyPeriodExpiry
  /- power-on and the reset input (R171); the operand is what the lines read at the reset -/
  | powerOn (lines : Lines)
  | resetInputAsserted
  | resetInputDeasserted (lines : Lines)
  | resetInputHeld1s (lines : Lines)
  /- a slot's lines and timers (R3, R4, R16, R6, R9, R13, R17) -/
  | presenceAsserted (slot : SlotId)
  | debounceExpiry (slot : SlotId)
  | announceTimerExpiry (slot : SlotId)
  | surpriseExtraction (slot : SlotId)
  | latchOpens (slot : SlotId)
  | latchCloses (slot : SlotId)
  | overcurrentAsserted (slot : SlotId)
  | powerGoodLost (slot : SlotId)
  | stopDeadlineExpiry (slot : SlotId)
  | resetDelayExpiry (slot : SlotId)
  | resetWidthExpiry (slot : SlotId)
  | slcScanDelivery
  /- the sequencer's timers and the sync line (R26, R27, R85) -/
  | prechargeExpiry
  | inrushGapExpiry
  | syncFallingEdge
  /- supplies and the thermal factor report (R48, R49, R69) -/
  | supplyPresentAsserted (bay : SupplyBay)
  | supplyPresentDeasserted (bay : SupplyBay)
  | outputGoodChange (bay : SupplyBay) (level : Bool)
  | thermalFactorReport
  /- the scanner (R84, R89) -/
  | periodTimerExpiry
  | channelReadEnd (answer : SensorAnswer)
  /- cooling (R109, R111, R151, R105, R118) -/
  | controlStep
  | thermalTripInputAsserted
  | fanStrapChange (bay : FanBay) (strap : Fin 4)
  | tachEdge (bay : FanBay) (counter : BitVec 16)
  | tachOverflow (bay : FanBay)
  | settleTimerExpiry
  /- uplink bays and lanes (R125, R126, R135) -/
  | uplinkPresentAsserted (bay : UplinkBay)
  | uplinkPresentDeasserted (bay : UplinkBay)
  | moduleFaultAsserted (bay : UplinkBay)
  | linkUpAsserted (bay : UplinkBay)
  | linkUpDeasserted (bay : UplinkBay)
  | linkHoldExpiry (bay : UplinkBay)
  | moveCompletion (lane : LaneId)
  /- identity reads (R153, R181) -/
  | identityReadEnd (block : List Byte)
  | identityReadTimeout
  | identityHeaderReject (kind serialLength : Byte)
  /- lines whose level alone is taken (R125, R112, R9), and a BUSY answer sent (R161) -/
  | moduleFaultDeasserted (bay : UplinkBay)
  | thermalTripInputDeasserted
  | overcurrentDeasserted (slot : SlotId)
  | powerGoodAsserted (slot : SlotId)
  | busyAnswerSent (port : Port)
  deriving DecidableEq, Repr

end Sys2Proof
end

