-- ==== Sys2Proof/Machine/Records.lean ====
section
/-! DEFINITION. The records, tables and lists the manual gives each block, as plain data (00_scope.md, "Blocks").
A field's docstring names the rule that gives it. -/

namespace Sys2Proof.Machine

/-! ### SLC: the slot records (R1) -/

/-- The ten slot states (section 1.1). -/
inductive SlotState where
  | empty | detecting | seated | mute | standby | queued | precharge | on | stopping | faulted
  deriving DecidableEq, Repr

/-- The three sources of power-on holdings; `admission` is the manual's ADMIT (section 2.2). -/
inductive Source where
  | urgent | queue | admission
  deriving DecidableEq, Repr

/-- Why a slot is stopping (R1). -/
inductive StopReason where
  | requested | eject | shed
  deriving DecidableEq, Repr

/-- Why a slot is faulted (R1, R9). -/
inductive FaultCause where
  | noPowerGood | overcurrent | powerGoodLost
  deriving DecidableEq, Repr

/-- The reset pulse of a slot, with the ms left of its delay or width; a delaying pulse keeps the width read when the
request was taken (R17). -/
inductive Pulse where
  | idle
  | delaying (left width : Nat)
  | asserting (left : Nat)
  deriving DecidableEq, Repr

/-- A slot record (R1), the three slot outputs, and the slot's debounce and announce timers in ms left. -/
structure SlotRec where
  state : SlotState
  presence : Bool
  latchOpen : Bool
  tier : Fin 4
  autoPowerOn : Bool
  mayRequest : Bool
  hold : Bool
  zone : ZoneId
  shutdownTimeout : Nat
  resetDelay : Nat
  resetWidth : Nat
  m : Nat
  c : Nat
  cap : Nat
  holdingSource : Option Source
  stopReason : Option StopReason
  deadline : Option Nat
  lastStopForced : Bool
  faultCause : Option FaultCause
  restore : Bool
  violations : Nat
  throttle : Bool
  pulse : Pulse
  mainSwitch : Bool
  resetLine : Bool
  debounce : Option Nat
  announceTimer : Option Nat
  deriving DecidableEq, Repr

/-! ### PSQ: the sequencer (chapter 2) -/

/-- A place in URGENT or QUEUE: its slot and flags; `wait` is the wait-trigger flag, clear in URGENT (section 2.2). -/
structure Place where
  slot : SlotId
  wait : Bool
  notify : Bool
  deriving DecidableEq, Repr

/-- The start mode of a source (section 2.2). -/
inductive StartMode where
  | preempt | wait
  deriving DecidableEq, Repr

/-- The settings of one source (section 2.9). -/
structure SourceSettings where
  enable : Bool
  priority : Fin 4
  mode : StartMode
  deriving DecidableEq, Repr

/-- The inrush resource (R25), with the ms left of the precharge or gap timer (R26, R27). -/
inductive Resource where
  | free
  | precharging (slot : SlotId) (source : Source) (notify : Bool) (left : Nat)
  | gap (left : Nat)
  deriving DecidableEq, Repr

/-- The state of PSQ (R25, R28, R32, R34, R43, R44). `roundDue` is the model's own: a round of R37 has been called for
in the event being worked and not yet run; it is clear between commands (log entry 5). -/
structure Psq where
  resource : Resource
  urgentEntry : Option Place
  urgentBackup : Option Place
  queue : List Place
  queueBackup : Option Place
  pendingSet : BitVec 14
  group : BitVec 14
  trigger : Bool
  pause : Bool
  urgent : SourceSettings
  queueSettings : SourceSettings
  admission : SourceSettings
  triggerOnSync : Bool
  prechargeTime : Nat
  inrushGap : Nat
  roundDue : Bool
  deriving DecidableEq, Repr

/-! ### BDU: supplies, budget, shed (chapters 3 and 4) -/

/-- The state of an inventory record (R148); a supply's identity field mirrors it (R47). -/
inductive InvState where
  | absent | reading | identified | unreadable | mismatch
  deriving DecidableEq, Repr

/-- The state of a supply (R47). -/
inductive SupplyState where
  | absent | unidentified | failed | healthy
  deriving DecidableEq, Repr

/-- A supply record (R47). -/
structure SupplyRec where
  state : SupplyState
  present : Bool
  outputGood : Bool
  identity : InvState
  rating : Nat
  deriving DecidableEq, Repr

/-- The redundancy mode (R51). -/
inductive RedundancyMode where
  | none | nPlus1 | nPlusN
  deriving DecidableEq, Repr

/-- The redundancy condition (R51, R59). -/
inductive Redundancy where
  | met | lost
  deriving DecidableEq, Repr

/-- The headroom threshold side (R58). -/
inductive Side where
  | atOrAbove | below
  deriving DecidableEq, Repr

/-- The outcome of a cap pass (R64). -/
inductive PassOutcome where
  | floors | distributed
  deriving DecidableEq, Repr

/-- The budget policy (section 3.6); `derate` in percent, `shedTimeout` in s. -/
structure BudgetPolicy where
  mode : RedundancyMode
  derate : Nat
  overhead : Nat
  threshold : Nat
  autoRestore : Bool
  shedTimeout : Nat
  deriving DecidableEq, Repr

/-- The record of the last cap pass: its outcome, the extra left undistributed, and, for each slot it took, the thermal
factor it read and (for an ON slot) the effective demand it computed (R64, R79). -/
structure LastPass where
  outcome : PassOutcome
  leftover : Nat
  k : Vector (Option Nat) 14
  e : Vector (Option Nat) 14
  deriving DecidableEq, Repr

/-- The state of BDU (R47, R53, R54, R58, R59, R60, R64, R71). -/
structure Bdu where
  supplies : Vector SupplyRec 6
  policy : BudgetPolicy
  fanReserve : Nat
  uplinkReserve : Nat
  floors : Vector (Option Nat) 14
  side : Side
  redundancy : Redundancy
  shedSet : List SlotId
  lastPass : LastPass
  deriving DecidableEq, Repr

/-! ### SSC: the scanner (chapter 5) -/

/-- The state of a reading (R82). -/
inductive ReadingState where
  | none | fresh | stale | disabled
  deriving DecidableEq, Repr

/-- A reading (R82): °C for the T channels, W for the P channels. -/
structure Reading where
  state : ReadingState
  value : Option Int
  failures : Nat
  deriving DecidableEq, Repr

/-- The scan source (section 5.7). -/
inductive ScanSource where
  | periodic | sync | request
  deriving DecidableEq, Repr

/-- What started the scan in flight (R83). -/
inductive ScanCause where
  | periodic | sync | request
  deriving DecidableEq, Repr

/-- A scan in flight: its cause, its captured list, the part still to be read (its head is the position), and the ms left
of the channel being read (R83, R88). -/
structure ScanRec where
  cause : ScanCause
  list : List Channel
  todo : List Channel
  left : Nat
  deriving DecidableEq, Repr

/-- The state of SSC (R82, R83), with the deliveries made at completions and not yet taken by CLC and SLC (R91). -/
structure Ssc where
  source : ScanSource
  period : Nat
  enable : BitVec 20
  readings : Vector Reading 20
  scan : Option ScanRec
  periodTimer : Option Nat
  overrun : Bool
  completed : BitVec 16
  toClc : List (Vector Reading 6)
  toSlc : List (Vector Reading 14)
  deriving DecidableEq, Repr

/-! ### CLC: zones, fans, characterisation (chapters 6 and 7) -/

/-- One point of a zone curve (R95). -/
structure CurvePoint where
  t : Int
  d : Nat
  deriving DecidableEq, Repr

/-- The settings of section 6.3 other than the curve. -/
structure ZoneLimits where
  floorDuty : Nat
  riseLimit : Nat
  fallLimit : Nat
  failoverDuty : Nat
  staleDuty : Nat
  inletLimit : Int
  inletBoost : Nat
  saturationSteps : Nat
  reliefSteps : Nat
  critical : Int
  deriving DecidableEq, Repr

/-- A zone record (R95). -/
structure ZoneRec where
  curve : Vector CurvePoint 4
  limits : ZoneLimits
  curveDemand : Nat
  bladeDemand : Nat
  boosted : Bool
  rawDemand : Nat
  duty : Nat
  saturation : Nat
  relief : Nat
  k : Nat
  deriving DecidableEq, Repr

/-- The state of a fan (R101). -/
inductive FanState where
  | absent | running | slow | failed | characterising
  deriving DecidableEq, Repr

/-- The result of a fan's last characterisation (R101). -/
inductive CharResult where
  | none | pass | fail | aborted
  deriving DecidableEq, Repr

/-- A fan record (R101). -/
structure FanRec where
  type : Fin 4
  state : FanState
  command : Nat
  lastPeriod : Option Nat
  rpm : Nat
  stallFloor : Nat
  result : CharResult
  prior : Option FanState
  slowCount : Nat
  failCount : Nat
  deriving DecidableEq, Repr

/-- The characterisation in flight (R116). -/
structure CharRec where
  bay : FanBay
  threshold : Nat
  bit : Fin 8
  r : Nat
  trial : Nat
  settle : Nat
  deriving DecidableEq, Repr

/-- The state of CLC (R95, R101, R105, R111, R116). `captures` holds each fan's valid previous capture; `reports` is the
number of reports of changed thermal factors made and not yet taken by BDU (R69, R109). -/
structure Clc where
  zones : Vector ZoneRec 4
  fans : Vector FanRec 8
  captures : Vector (Option (BitVec 16)) 8
  tachCounter : BitVec 16
  trip : Bool
  search : Option CharRec
  reports : Nat
  deriving DecidableEq, Repr

/-! ### LXC: uplink bays and lanes (chapter 8) -/

/-- The state of an uplink bay (R124). -/
inductive BayState where
  | absent | identifying | down | up | fault
  deriving DecidableEq, Repr

/-- A bay record (R124); `hold` is the link-up hold timer in ms left. -/
structure BayRec where
  state : BayState
  present : Bool
  linkUp : Bool
  moduleFault : Bool
  power : Bool
  fabric : Nat
  capacity : Nat
  reserve : Nat
  bound : Nat
  movingIn : Nat
  hold : Option Nat
  deriving DecidableEq, Repr

/-- The state of a lane, with the parts R128 gives only in MOVING (target, move time left) and in BOUND (bay). -/
inductive LaneState where
  | none | disabled | idle | incompatible | waiting
  | moving (target : UplinkBay) (left : Nat)
  | bound (bay : UplinkBay)
  deriving DecidableEq, Repr

/-- A lane record (R128). -/
structure LaneRec where
  fabric : Nat
  pref : List UplinkBay
  enable : Bool
  state : LaneState
  deriving DecidableEq, Repr

/-- The state of LXC (R124, R128, R132, R144). -/
structure Lxc where
  bays : Vector BayRec 4
  lanes : Vector LaneRec 28
  waitList : List LaneId
  failback : Bool
  linkHold : Nat
  moveTime : Nat
  deriving DecidableEq, Repr

/-! ### INV: the inventory (chapter 9) -/

/-- The read status of a record (R148). -/
inductive ReadStatus where
  | none | waiting | inFlight
  deriving DecidableEq, Repr

/-- The common fields of an identity part (R148). -/
structure Common where
  model : BitVec 16
  revision : Byte
  serial : List Byte
  deriving DecidableEq, Repr

/-- The identity part of a blade record (R148, R150). -/
structure BladeIdentity where
  common : Common
  floor : Nat
  maximum : Nat
  fabricA : Nat
  fabricB : Nat
  deriving DecidableEq, Repr

/-- The identity part of an uplink record (R148). -/
structure UplinkIdentity where
  common : Common
  fabric : Nat
  capacity : Nat
  reserve : Nat
  deriving DecidableEq, Repr

/-- An identity part, by kind (R148). -/
inductive Identity where
  | blade (b : BladeIdentity)
  | supply (common : Common) (rating : Nat)
  | fan (type : Fin 4)
  | uplink (u : UplinkIdentity)
  deriving DecidableEq, Repr

/-- An inventory record (R148); its kind and position are its number's. -/
structure InvRec where
  state : InvState
  read : ReadStatus
  identity : Option Identity
  deriving DecidableEq, Repr

/-- The state of INV (R148, R149, R152). `readLeft` is the ms left of the read in flight, which is always of the head of the
list; none while no read is in flight (R153). -/
structure Inv where
  records : Vector InvRec 32
  generation : BitVec 16
  readList : List RecNo
  readLeft : Option Nat
  deriving DecidableEq, Repr

/-! ### LNK: links, service, primacy, notices (chapters 10 and 11) -/

/-- The twelve outcomes (R167). -/
inductive OutcomeCode where
  | done | accepted | clamped | busy | state | range | full | notPrimary | notOwner | held | unknown | format
  deriving DecidableEq, Repr

/-- The sixteen notice conditions in bit order (section 11.1). -/
inductive Cond where
  | slotState | capChanged | shutdownAsked | laneChanged | headroomLow | headroomOk | redundancy | shed
  | fanFault | thermalTrip | sequenceStep | inventory | primacy | characteriseDone | sensorStale | posted
  deriving DecidableEq, Repr

/-- The state of a port (R158). -/
inductive PortState where
  | idle | waiting | answering
  deriving DecidableEq, Repr

/-- The round-robin class of a port (R162). -/
inductive PortClass where
  | high | low
  deriving DecidableEq, Repr

/-- The kind of the last reset (R170). -/
inductive ResetKind where
  | cold | warmInput | warmRestart
  deriving DecidableEq, Repr

/-- The supervisors: A on port 14, B on port 15. -/
inductive Supervisor where
  | a | b
  deriving DecidableEq, Repr

/-- The authority classes of requests (R166). -/
inductive Authority where
  | own | any | anySupervisor | primary
  deriving DecidableEq, Repr

/-- A request held for service (R158). -/
structure Request where
  kind : Byte
  payload : List Byte
  deriving DecidableEq, Repr

/-- An entry of a service table bank (R162). -/
structure Entry where
  port : Port
  vacant : Bool
  last : Bool
  deriving DecidableEq, Repr

/-! ### What the read requests return, each in the words of its rule -/

/-- The cap side of one powered slot in Read Budget (R79). -/
structure CapLine where
  slot : SlotId
  tier : Fin 4
  k : Option Nat
  e : Option Nat
  cap : Nat
  deriving DecidableEq, Repr

/-- One slot of the shed set in Read Budget (R79). -/
structure ShedLine where
  slot : SlotId
  floor : Option Nat
  reason : Option StopReason
  deadline : Option Nat
  deriving DecidableEq, Repr

/-- Read Budget (R61, R79). -/
structure BudgetReport where
  policy : BudgetPolicy
  healthy : List SupplyBay
  rawCapacity : Nat
  condition : Redundancy
  usable : Nat
  fanReserve : Nat
  uplinkReserve : Nat
  overhead : Nat
  reserve : Nat
  pool : Nat
  floors : Vector (Option Nat) 14
  committed : Nat
  headroom : Int
  side : Side
  outcome : PassOutcome
  leftover : Nat
  caps : List CapLine
  shedSet : List ShedLine
  shedInProgress : Bool
  deriving DecidableEq, Repr

/-- Read Sequencer (R45): the state of PSQ, and the slot each source would present. -/
structure SequencerReport where
  psq : Psq
  urgent : Option SlotId
  queue : Option SlotId
  admission : Option SlotId
  deriving DecidableEq, Repr

/-- Read Fan (R113, R116): the fan record, the expected rpm at its command, and the search while it is CHARACTERISING. -/
structure FanReport where
  fan : FanRec
  expectedRpm : Nat
  search : Option CharRec
  deriving DecidableEq, Repr

/-- Read Sensor (R93): the scanner summary and the readings asked for. -/
structure SensorReport where
  source : ScanSource
  period : Nat
  enable : BitVec 20
  scanning : Option (ScanCause × Option Channel × Nat)
  overrun : Bool
  completed : BitVec 16
  readings : List (Channel × Reading)
  deriving DecidableEq, Repr

/-- Read Lane (R145). -/
structure LaneReport where
  lanes : List (LaneId × LaneRec)
  waitList : List LaneId
  failback : Bool
  moveTime : Nat
  deriving DecidableEq, Repr

/-- Read Inventory Record (R156). -/
structure InvReport where
  generation : BitVec 16
  readList : List RecNo
  inFlight : Option RecNo
  records : List (RecNo × InvRec)
  deriving DecidableEq, Repr

/-- Read Chassis Summary (R170). -/
structure ChassisSummary where
  port : Port
  holder : Option Supervisor
  period : Nat
  periodLeft : Option Nat
  lastReset : ResetKind
  selectedBank : Fin 2
  swapPending : Bool
  pointer : Fin 16
  classes : Vector PortClass 16
  ports : Vector PortState 16
  slots : Vector SlotState 14
  generation : BitVec 16
  redundancy : Redundancy
  headroom : Int
  shedInProgress : Bool
  trip : Bool
  deriving DecidableEq, Repr

/-- The payload of a response. `bytes` where chapter 12 or section 10.7 lays it out; elsewhere the figures the owning rule
names, whose layout the manual does not give (log entry 4). -/
inductive Payload where
  | empty
  | bytes (b : List Byte)
  | demand (applied : Nat)
  | slotPolicy (tier : Fin 4) (shutdownTimeout resetDelay resetWidth : Nat)
  | budgetPolicy (p : BudgetPolicy)
  | sequencerSettings (urgent queue admission : SourceSettings) (prechargeTime inrushGap : Nat)
  | admissionLoad (pendingSet passedOver : BitVec 14)
  | removedSlot (slot : SlotId)
  | zoneLimits (l : ZoneLimits)
  | abortedBay (bay : FanBay)
  | scanPeriod (period : Nat)
  | scanCount (completed : BitVec 16)
  | linkHold (hold : Nat)
  | moveTime (time : Nat)
  | primacy (holder : Option Supervisor) (period : Nat)
  | supply (r : SupplyRec)
  | budget (r : BudgetReport)
  | sequencer (r : SequencerReport)
  | zone (r : ZoneRec) (trip : Bool)
  | fan (r : FanReport)
  | sensor (r : SensorReport)
  | lanes (r : LaneReport)
  | bays (r : List (UplinkBay × BayRec)) (linkHold : Nat)
  | inventory (r : InvReport)
  | summary (r : ChassisSummary)
  deriving DecidableEq, Repr

/-- What a service answers: its outcome and payload. -/
structure Reply where
  outcome : OutcomeCode
  payload : Payload
  deriving DecidableEq, Repr

/-- A response to a held request (R161). -/
structure Response where
  kind : Byte
  outcome : OutcomeCode
  payload : Payload
  deriving DecidableEq, Repr

/-- What a port has formed and not yet transmitted: a BUSY answer, which belongs to no held request, or the response to
the held request (R160, R161). -/
inductive Transmission where
  | busy (kind : Byte)
  | response (r : Response)
  deriving DecidableEq, Repr

/-- A port record (R158), with its class (R162), notice sets and attention line (R173, R175), and the bytes of a frame
partly received (R172). `tx` is in the order formed. -/
structure PortRec where
  state : PortState
  held : Option Request
  tx : List Transmission
  rx : List Byte
  cls : PortClass
  selected : BitVec 16
  pending : BitVec 16
  attention : Bool
  deriving DecidableEq, Repr

/-- The request engine (R163, R171): free, serving the request its port holds, or held by Restart Controller until the
response of that port is sent. -/
inductive Engine where
  | free
  | serving (port : Port)
  | restarting (port : Port)
  deriving DecidableEq, Repr

/-- The state of LNK (R158, R162, R168, R170, R171). `periodLeft` is the primacy period timer and `resetMeasure` the ms
since the reset input was asserted, while it is measured. -/
structure Lnk where
  ports : Vector PortRec 16
  bank0 : Vector Entry 16
  bank1 : Vector Entry 16
  selectedBank : Fin 2
  pointer : Fin 16
  swapPending : Bool
  lastHigh : Port
  lastLow : Port
  engine : Engine
  holder : Option Supervisor
  period : Nat
  periodLeft : Option Nat
  lastReset : ResetKind
  resetMeasure : Option Nat
  deriving DecidableEq, Repr

end Sys2Proof.Machine
end

