-- ==== Sys2Proof/Config.lean ====
section
/-! DEFINITION. What the manual leaves open and the model keeps open: the free values. -/

namespace Sys2Proof

/-- Free value (log entry 3): the period written when an edge captures the same counter value as the edge before it.
R105 gives the period as a difference of captures modulo 65536 and as a figure from 1 to 65535, and states none for a
difference of 0. The argument is `State.freeCount`, so every use has a value of its own; it has no body, so nothing can be
proved of it. -/
opaque Config.freeTachPeriod : Nat → Nat

/-- Free value (log entry 4): the bytes of a response payload that neither chapter 12 nor section 10.7 lays out, as a function
of the figures it carries, so that every response has frames with an outcome, lengths and a correct check (R161, R178) whatever
the layout is. It has no body, so nothing can be proved of it. -/
opaque Config.freeLayout : Machine.Payload → List Byte

end Sys2Proof
end

