-- ==== Sys2Proof/Machine/Defaults.lean ====
section
/-! DEFINITION. The fixed figures of the manual and the cold value of every record: the defaults of the settings tables
and the Cold columns (R1, R47, R82, R83, R95, R101, R124, R128, R162), and the lines of an empty chassis. -/

namespace Sys2Proof.Machine

/-! ### Fixed times, in ms -/

/-- The presence debounce (R3). -/
def debounceMs : Nat := 100
/-- The announce timeout (R4). -/
def announceMs : Nat := 10000
/-- The time given to each channel of a scan (R83). -/
def channelMs : Nat := 2
/-- The settle time of one characterisation step (R117). -/
def settleMs : Nat := 3000
/-- The identity read limit (R153). -/
def identityReadMs : Nat := 100
/-- The longest payload of a frame (R159). -/
def maxPayload : Nat := 60

/-! ### Positions -/

/-- Supervisors A and B are ports 14 and 15 (R158). -/
def supervisorPort : Supervisor → Port
  | .a => 14
  | .b => 15

/-- The supervisor of a port, where it is a supervisor link. -/
def supervisorOf (p : Port) : Option Supervisor :=
  if p = 14 then some .a else if p = 15 then some .b else none

/-- The slot link of a slot (R158). -/
def slotPort (i : SlotId) : Port := ⟨i.val, by omega⟩

/-- The slot a slot link acts for; none for a supervisor link (R166). -/
def portSlot (p : Port) : Option SlotId :=
  if h : p.val < 14 then some ⟨p.val, h⟩ else none

/-- Record numbers by kind (R148). -/
def bladeRecord (i : SlotId) : RecNo := ⟨i.val, by omega⟩
/-- Record numbers 14–19 (R148). -/
def supplyRecord (b : SupplyBay) : RecNo := ⟨14 + b.val, by omega⟩
/-- Record numbers 20–27 (R148). -/
def fanRecord (b : FanBay) : RecNo := ⟨20 + b.val, by omega⟩
/-- Record numbers 28–31 (R148). -/
def uplinkRecord (b : UplinkBay) : RecNo := ⟨28 + b.val, by omega⟩

/-- What position a record number stands for (R148). -/
inductive Position where
  | blade (slot : SlotId)
  | supply (bay : SupplyBay)
  | fan (bay : FanBay)
  | uplink (bay : UplinkBay)
  deriving DecidableEq, Repr

/-- The position of a record number (R148). -/
def positionOf (n : RecNo) : Position :=
  if h : n.val < 14 then .blade ⟨n.val, h⟩
  else if h : n.val < 20 then .supply ⟨n.val - 14, by omega⟩
  else if h : n.val < 28 then .fan ⟨n.val - 20, by omega⟩
  else .uplink ⟨n.val - 28, by omega⟩

/-- The zone of a fan bay (R101). -/
def zoneOfFan (b : FanBay) : ZoneId := ⟨b.val / 2, by omega⟩
/-- The other fan bay of the zone (R101). -/
def partner (b : FanBay) : FanBay := if b.val % 2 = 0 then ⟨(b.val + 1) % 8, by omega⟩ else ⟨b.val - 1, by omega⟩
/-- The two fan bays of a zone (R101). -/
def fansOfZone (z : ZoneId) : List FanBay := [⟨2 * z.val, by omega⟩, ⟨2 * z.val + 1, by omega⟩]
/-- The slot of a lane (R128). -/
def laneSlot (l : LaneId) : SlotId := ⟨l.val / 2, by omega⟩
/-- Lane A of a slot (R128). -/
def laneA (i : SlotId) : LaneId := ⟨2 * i.val, by omega⟩
/-- Lane B of a slot (R128). -/
def laneB (i : SlotId) : LaneId := ⟨2 * i.val + 1, by omega⟩
/-- The power channel P(s) of slot s (R82). -/
def powerChannel (i : SlotId) : Channel := ⟨i.val + 6, by omega⟩
/-- The exhaust channel T(2+z) of zone z, as its place among T0–T5 (R82). -/
def exhaustIndex (z : ZoneId) : Fin 6 := ⟨z.val + 2, by omega⟩
/-- The exhaust channel T(2+z) of zone z (R82). -/
def exhaustChannel (z : ZoneId) : Channel := ⟨z.val + 2, by omega⟩
/-- Whether a supply bay lies in grid A (R47). -/
def inGridA (b : SupplyBay) : Bool := decide (b.val < 3)

/-! ### The fan types (R101) -/

/-- Max rpm by type. -/
def fanMaxRpm : Fin 4 → Nat
  | 0 => 0 | 1 => 12000 | 2 => 16000 | 3 => 9000
/-- Min rpm by type. -/
def fanMinRpm : Fin 4 → Nat
  | 0 => 0 | 1 => 1500 | 2 => 2000 | 3 => 1200
/-- Tachometer pulses per revolution by type. -/
def fanPulses : Fin 4 → Nat
  | 0 => 0 | 1 => 2 | 2 => 2 | 3 => 4
/-- Power reserve in W by type (R53, R101). -/
def fanTypeReserve : Fin 4 → Nat
  | 0 => 0 | 1 => 36 | 2 => 60 | 3 => 24
/-- Default stall floor by type. -/
def fanStallFloor : Fin 4 → Nat
  | 0 => 0 | 1 => 40 | 2 => 48 | 3 => 32

/-! ### Cold values -/

/-- The default zone map (section 1.2). -/
def defaultZone (i : SlotId) : ZoneId :=
  if i.val < 4 then 0 else if i.val < 8 then 1 else if i.val < 11 then 2 else 3

/-- The Cold column of R1, with presence and latch at their line levels. -/
def coldSlot (l : Lines) (i : SlotId) : SlotRec where
  state := .empty
  presence := l.presence.getLsbD i
  latchOpen := l.latchOpen.getLsbD i
  tier := 1
  autoPowerOn := false
  mayRequest := true
  hold := false
  zone := defaultZone i
  shutdownTimeout := 30
  resetDelay := 0
  resetWidth := 100
  m := 0
  c := 0
  cap := 0
  holdingSource := none
  stopReason := none
  deadline := none
  lastStopForced := false
  faultCause := none
  restore := false
  violations := 0
  throttle := false
  pulse := .idle
  mainSwitch := false
  resetLine := false
  debounce := none
  announceTimer := none

/-- PSQ after a cold reset (R46, section 2.9). -/
def coldPsq : Psq where
  resource := .free
  urgentEntry := none
  urgentBackup := none
  queue := []
  queueBackup := none
  pendingSet := 0
  group := 0
  trigger := false
  pause := false
  urgent := ⟨true, 3, .preempt⟩
  queueSettings := ⟨true, 2, .wait⟩
  admission := ⟨true, 1, .wait⟩
  triggerOnSync := false
  prechargeTime := 200
  inrushGap := 100
  roundDue := false

/-- The default budget policy (section 3.6). -/
def defaultPolicy : BudgetPolicy where
  mode := .nPlus1
  derate := 95
  overhead := 150
  threshold := 200
  autoRestore := true
  shedTimeout := 5

/-- The Cold column of R47, with the two line fields at their levels. -/
def coldSupply (l : Lines) (b : SupplyBay) : SupplyRec where
  state := .absent
  present := l.supplyPresent.getLsbD b
  outputGood := l.outputGood.getLsbD b
  identity := .absent
  rating := 0

/-- BDU after a cold reset, before it takes the supplies' lines (R62, R80). -/
def coldBdu (l : Lines) : Bdu where
  supplies := tabulate (coldSupply l)
  policy := defaultPolicy
  fanReserve := 0
  uplinkReserve := 0
  floors := tabulate fun _ => none
  side := .atOrAbove
  redundancy := .met
  shedSet := []
  lastPass := ⟨.distributed, 0, tabulate fun _ => none, tabulate fun _ => none⟩

/-- SSC after a cold reset, before its first scan starts (R94). -/
def coldSsc : Ssc where
  source := .periodic
  period := 1000
  enable := BitVec.allOnes 20
  readings := tabulate fun _ => ⟨.none, none, 0⟩
  scan := none
  periodTimer := some 1000
  overrun := false
  completed := 0
  toClc := []
  toSlc := []

/-- The default zone limits (section 6.3). -/
def defaultLimits : ZoneLimits where
  floorDuty := 48
  riseLimit := 255
  fallLimit := 8
  failoverDuty := 255
  staleDuty := 200
  inletLimit := 35
  inletBoost := 32
  saturationSteps := 10
  reliefSteps := 30
  critical := 85

/-- The Cold column of R95. -/
def coldZone : ZoneRec where
  curve := #v[⟨25, 64⟩, ⟨35, 96⟩, ⟨45, 160⟩, ⟨55, 255⟩]
  limits := defaultLimits
  curveDemand := 0
  bladeDemand := 0
  boosted := false
  rawDemand := 160
  duty := 160
  saturation := 0
  relief := 0
  k := 100

/-- An ABSENT fan's record (R101). -/
def coldFan : FanRec where
  type := 0
  state := .absent
  command := 0
  lastPeriod := none
  rpm := 0
  stallFloor := 0
  result := .none
  prior := none
  slowCount := 0
  failCount := 0

/-- CLC after a cold reset, before it takes the straps and the trip input (R114). The free counter's value is the model's
choice (log entry 6). -/
def coldClc : Clc where
  zones := tabulate fun _ => coldZone
  fans := tabulate fun _ => coldFan
  captures := tabulate fun _ => none
  tachCounter := 0
  trip := false
  search := none
  reports := 0

/-- The Cold column of R124, with the three line fields at their levels. -/
def coldBay (l : Lines) (b : UplinkBay) : BayRec where
  state := .absent
  present := l.uplinkPresent.getLsbD b
  linkUp := l.linkUp.getLsbD b
  moduleFault := l.moduleFault.getLsbD b
  power := false
  fabric := 0
  capacity := 0
  reserve := 0
  bound := 0
  movingIn := 0
  hold := none

/-- The default preference list: side A 0, 2; side B 1, 3 (R128). -/
def defaultPref (l : LaneId) : List UplinkBay := if l.val % 2 = 0 then [0, 2] else [1, 3]

/-- The Cold column of R128. -/
def coldLane (l : LaneId) : LaneRec where
  fabric := 0
  pref := defaultPref l
  enable := true
  state := .none

/-- LXC after a cold reset, before it takes the bays' lines (R146, section 8.9). -/
def coldLxc (l : Lines) : Lxc where
  bays := tabulate (coldBay l)
  lanes := tabulate coldLane
  waitList := []
  failback := false
  linkHold := 1000
  moveTime := 20

/-- An ABSENT inventory record (R157). -/
def coldRecord : InvRec where
  state := .absent
  read := .none
  identity := none

/-- INV after a cold reset, before the straps and present lines are taken (R157). -/
def coldInv : Inv where
  records := tabulate fun _ => coldRecord
  generation := 0
  readList := []
  readLeft := none

/-- A vacant entry that ends its bank (R162). It names no port; its port field stands at 0 by the model's choice (log entry
23). -/
def vacantEntry : Entry := ⟨0, true, true⟩

/-- Bank 0 after either reset: port 14, port 15, then vacant end entries (R162). -/
def defaultBank0 : Vector Entry 16 :=
  tabulate fun e => if e = 0 then ⟨14, false, false⟩ else if e = 1 then ⟨15, false, false⟩ else vacantEntry

/-- Bank 1 after either reset (R162). -/
def defaultBank1 : Vector Entry 16 := tabulate fun _ => vacantEntry

/-- A port after either reset (R162, R172, R177). -/
def resetPort (p : Port) : PortRec where
  state := .idle
  held := none
  tx := []
  rx := []
  cls := if p.val < 14 then .low else .high
  selected := 0
  pending := 0
  attention := false

/-- LNK after either reset; the kind of the reset and a measurement of the reset input in progress are given (R162, R171,
R172). -/
def resetLnk (kind : ResetKind) (measure : Option Nat) : Lnk where
  ports := tabulate resetPort
  bank0 := defaultBank0
  bank1 := defaultBank1
  selectedBank := 0
  pointer := 0
  swapPending := false
  lastHigh := 15
  lastLow := 15
  engine := .free
  holder := none
  period := 10
  periodLeft := none
  lastReset := kind
  resetMeasure := measure

/-- The lines of a chassis with no blade, supply, fan or uplink module: every line deasserted, every latch line closed,
every strap 0 (log entry 6). -/
def idleLines : Lines where
  presence := 0
  latchOpen := 0
  powerGood := 0
  overcurrent := 0
  supplyPresent := 0
  outputGood := 0
  straps := 0
  uplinkPresent := 0
  linkUp := 0
  moduleFault := 0
  tripInput := false
  resetInput := false

end Sys2Proof.Machine
end

