-- ==== Sys2Proof/Machine/Operands.lean ====
section
/-! DEFINITION. Every operand form: how a request names a slot, bay, record or ALL, how a flag and a number outside its
range are taken, the masks, and the byte layouts the manual gives (section 10.7 and chapter 12). -/

namespace Sys2Proof.Machine

/-! ### Names, selectors, flags, masks -/

/-- A number byte that names one of `n` things; none names something that does not exist (RANGE). -/
def nameOf (n : Nat) (b : Byte) : Option (Fin n) := if h : b.toNat < n then some ⟨b.toNat, h⟩ else none

/-- A selector byte: 255 for ALL, otherwise one of `n` things (section 10.7). -/
def selection (n : Nat) (b : Byte) : Option (List (Fin n)) :=
  if b = 255#8 then some (indexes n) else (nameOf n b).map fun i => [i]

/-- Whether a mask names something beyond the last of `n` things (section 10.7). -/
def maskBeyond {w : Nat} (n : Nat) (mask : BitVec w) : Bool := decide (2 ^ n ≤ mask.toNat)

/-- A set edited by a set mask and a clear mask: joined with the one, then less the other (R32, R90, R143, R174). -/
def editSet {n w : Nat} (old : BitVec n) (set clear : BitVec w) : BitVec n :=
  (old ||| set.setWidth n) &&& ~~~(clear.setWidth n)

/-- DONE where every applied value is the one given, CLAMPED otherwise (00_scope.md, "Settings"). -/
def doneOrClamped (same : Bool) : OutcomeCode := if same then .done else .clamped

/-! ### Bytes -/

/-- A number as two bytes, most significant first (chapter 12). -/
def bytes2 (n : Nat) : List Byte := [BitVec.ofNat 8 (n / 256), BitVec.ofNat 8 n]

/-- A number as four bytes, most significant first (chapter 12). -/
def bytes4 (n : Nat) : List Byte := bytes2 (n / 65536) ++ bytes2 n

/-- One step of the CRC-8 with polynomial x⁸ + x² + x + 1, most significant bit first (R178). -/
def crcBit (c : Byte) : Byte := if c.msb then (c <<< 1) ^^^ 7#8 else c <<< 1

/-- One byte entered into the CRC (R178). -/
def crcByte (c b : Byte) : Byte := crcBit (crcBit (crcBit (crcBit (crcBit (crcBit (crcBit (crcBit (c ^^^ b))))))))

/-- The CRC-8 of a list of bytes, from an initial value of 0 (R178). -/
def crc8 (bs : List Byte) : Byte := bs.foldl crcByte 0#8

/-! ### Request frames -/

/-- A request frame, whole: kind, length, payload, check (section 12.1). -/
structure FrameParts where
  kind : Byte
  payload : List Byte
  check : Byte
  deriving DecidableEq, Repr

/-- The parts of the bytes of a frame, where the length byte is at most 60 and agrees with what follows it (R159). -/
def frameParts : List Byte → Option FrameParts
  | kind :: len :: rest =>
    if len.toNat ≤ maxPayload ∧ rest.length = len.toNat + 1 then
      some ⟨kind, rest.take len.toNat, rest.getD len.toNat 0⟩
    else none
  | _ => none

/-- Whether the check byte of a frame is the CRC-8 of the bytes before it (R159, R178). -/
def checkGood (frame : List Byte) : Bool := frame.getLast? == some (crc8 frame.dropLast)

/-- A request frame as a master sends it (R178). -/
def requestBytes (kind : Byte) (payload : List Byte) : List Byte :=
  let body := kind :: BitVec.ofNat 8 payload.length :: payload
  body ++ [crc8 body]

/-! ### Response frames -/

/-- The outcome byte (section 12.1). -/
def OutcomeCode.code : OutcomeCode → Byte
  | .done => 0 | .accepted => 1 | .clamped => 2 | .busy => 3 | .state => 4 | .range => 5
  | .full => 6 | .notPrimary => 7 | .notOwner => 8 | .held => 9 | .unknown => 10 | .format => 11

/-- One frame of a response (R161, R178). -/
def responseFrame (kind : Byte) (o : OutcomeCode) (part : List Byte) : List Byte :=
  let body := kind :: o.code :: BitVec.ofNat 8 part.length :: part
  body ++ [crc8 body]

/-- The run of frames of a response with a byte payload: 60 bytes in every frame but the last, which has fewer (R161). -/
def responseRun (kind : Byte) (o : OutcomeCode) (payload : List Byte) : List (List Byte) :=
  (List.range (payload.length / maxPayload + 1)).map fun n =>
    responseFrame kind o ((payload.drop (maxPayload * n)).take maxPayload)

/-- The bytes of a payload: none of an empty one, those of chapter 12 or section 10.7 where one of them lays it out, and
otherwise free bytes of the figures it carries (log entry 4). -/
def Payload.wire : Payload → List Byte
  | .empty => []
  | .bytes b => b
  | p => Config.freeLayout p

/-- The frames a transmission puts on the link: the run of frames of its outcome and its payload's bytes (R161, R178). -/
def Transmission.frames : Transmission → List (List Byte)
  | .busy kind => responseRun kind .busy []
  | .response r => responseRun r.kind r.outcome r.payload.wire

/-! ### The request catalogue (section 10.7) -/

/-- The authority class of a kind; none for a kind not in the catalogue. -/
def authorityOf (kind : Byte) : Option Authority :=
  let k := kind.toNat
  if 1 ≤ k ∧ k ≤ 5 then some .own
  else if 16 ≤ k ∧ k ≤ 18 then some .any
  else if 32 ≤ k ∧ k ≤ 44 then some .anySupervisor
  else if 64 ≤ k ∧ k ≤ 99 then some .primary
  else none

/-- The payload lengths of the kinds that allow one length only. -/
def fixedLengths : List (Nat × Nat) :=
  [(2, 1), (3, 1), (4, 4), (5, 1), (16, 4), (17, 0), (18, 0),
   (32, 1), (33, 1), (34, 0), (35, 0), (36, 1), (37, 1), (38, 1), (39, 1), (40, 1), (41, 1), (43, 0), (44, 0),
   (64, 8), (65, 9), (66, 2), (67, 14), (68, 2), (70, 0), (71, 4), (72, 1), (73, 14), (74, 1), (75, 1), (76, 1),
   (77, 1), (78, 1), (79, 1), (80, 1), (81, 13), (82, 12), (83, 1), (84, 0), (85, 1), (86, 0), (87, 3), (88, 6),
   (89, 6), (90, 8), (91, 1), (92, 2), (93, 1), (94, 1), (96, 0), (97, 2), (98, 2), (99, 0)]

/-- Whether the catalogue allows a payload's length for its kind; an Announce is held against its declared serial length
(R160, R179). -/
def lengthAllowed (kind : Byte) (payload : List Byte) : Bool :=
  let n := payload.length
  match kind.toNat with
  | 1 => decide (11 ≤ n) && decide (n = 11 + (payload.getD 10 0).toNat)
  | 42 => n == 0 || n == 1
  | 69 => decide (2 ≤ n) && decide (n ≤ 28) && n % 2 == 0
  | 95 => decide (3 ≤ n) && decide (n ≤ 33) && n % 2 == 1
  | k => fixedLengths.contains (k, n)

/-! ### Request payloads the manual lays out -/

end Sys2Proof.Machine

namespace Sys2Proof

open Machine

/-! ### The operands of a request: values, ranges, applied values -/

/-- A tier or priority brought into 0–3. -/
def clampTier (x : Nat) : Fin 4 := ⟨min 3 x, by omega⟩

/-- A flag's value; none where it is neither of its two values (RANGE). -/
def FlagArg.value : FlagArg → Option Bool
  | .on => some true
  | .off => some false
  | .other => none

def SourceArg.value : SourceArg → Option Source
  | .urgent => some .urgent
  | .queue => some .queue
  | .admission => some .admission
  | .other => none

def ModeArg.value : ModeArg → Option RedundancyMode
  | .none => some .none
  | .nPlus1 => some .nPlus1
  | .nPlusN => some .nPlusN
  | .other => Option.none

def StartModeArg.value : StartModeArg → Option StartMode
  | .preempt => some .preempt
  | .wait => some .wait
  | .other => none

/-- The queue trigger source: whether it is SYNC. -/
def TriggerArg.value : TriggerArg → Option Bool
  | .off => some false
  | .sync => some true
  | .other => none

def ScanSourceArg.value : ScanSourceArg → Option ScanSource
  | .periodic => some .periodic
  | .sync => some .sync
  | .request => some .request
  | .other => none

/-! ### Announce (R5, R179) -/

/-- The payload of an Announce from slot link `p` (section 12.2, R179). -/
def AnnounceArgs.bytes (a : AnnounceArgs) (p : Port) : List Byte :=
  [BitVec.ofNat 8 p.val] ++ bytes2 a.model.toNat ++ [a.revision] ++ bytes2 a.floor.toNat ++ bytes2 a.maximum.toNat
    ++ [a.fabricA, a.fabricB, BitVec.ofNat 8 a.serial.length] ++ a.serial

/-- The floor as SLC applies it: at most 2047 W. -/
def AnnounceArgs.appliedFloor (a : AnnounceArgs) : Nat := min 2047 a.floor.toNat

/-- The maximum as SLC applies it: at least the applied floor, at most 2047 W. -/
def AnnounceArgs.appliedMaximum (a : AnnounceArgs) : Nat := min 2047 (max a.appliedFloor a.maximum.toNat)

/-- The identity INV stores, with the floor and maximum as applied (R150). -/
def AnnounceArgs.identity (a : AnnounceArgs) : BladeIdentity where
  common := ⟨a.model, a.revision, a.serial⟩
  floor := a.appliedFloor
  maximum := a.appliedMaximum
  fabricA := a.fabricA.toNat
  fabricB := a.fabricB.toNat

/-- A structurally wrong Announce: a serial of 0 or more than 16 characters, or a fabric code above 15 (R5, R179). -/
def AnnounceArgs.wrong (a : AnnounceArgs) : Bool :=
  a.serial.length == 0 || decide (16 < a.serial.length) || decide (15 < a.fabricA.toNat) || decide (15 < a.fabricB.toNat)

/-! ### Policies and settings (R19, R30, R43, R60) -/

/-- The slot record with a policy written, numbers brought into range (R19). -/
def SlotPolicyArgs.apply (p : SlotPolicyArgs) (autoOn mayRequest : Bool) (r : SlotRec) : SlotRec :=
  { r with
    tier := clampTier p.tier, autoPowerOn := autoOn, mayRequest := mayRequest
    shutdownTimeout := clamp 1 600 p.shutdownTimeout, resetDelay := clamp 0 1000 p.resetDelay
    resetWidth := clamp 1 1000 p.resetWidth }

/-- Whether every number of a policy lies in its range (R19). -/
def SlotPolicyArgs.inRange (p : SlotPolicyArgs) : Bool :=
  decide ((clampTier p.tier).val = p.tier ∧ clamp 1 600 p.shutdownTimeout = p.shutdownTimeout
    ∧ clamp 0 1000 p.resetDelay = p.resetDelay ∧ clamp 1 1000 p.resetWidth = p.resetWidth)

/-- A place as the list holds it; none where its slot or a flag is not one (R30). -/
def PlaceArg.place (p : PlaceArg) : Option Place :=
  match nameOf 14 p.slot, p.waitTrigger.value, p.notify.value with
  | some i, some w, some n => some ⟨i, w, n⟩
  | _, _, _ => none

/-- One source's settings, priority brought into range; none where the enable or the mode is wrong (R43). -/
def SourceArgs.value (a : SourceArgs) : Option SourceSettings :=
  match a.enable.value, a.mode.value with
  | some e, some m => some ⟨e, clampTier a.priority, m⟩
  | _, _ => none

/-- Whether every number of Configure Sequencer lies in its range (R43). -/
def SequencerArgs.inRange (p : SequencerArgs) : Bool :=
  decide (p.urgent.priority ≤ 3 ∧ p.queue.priority ≤ 3 ∧ p.admission.priority ≤ 3
    ∧ clamp 50 2000 p.prechargeTime = p.prechargeTime ∧ clamp 0 1000 p.inrushGap = p.inrushGap)

/-- A policy with its numbers brought into range (R60). -/
def BudgetArgs.policy (p : BudgetArgs) (mode : RedundancyMode) (autoRestore : Bool) : BudgetPolicy where
  mode := mode
  derate := clamp 50 100 p.derate
  overhead := clamp 0 1023 p.overhead
  threshold := clamp 0 8191 p.threshold
  autoRestore := autoRestore
  shedTimeout := clamp 1 60 p.shedTimeout

/-- Whether every number of a budget policy lies in its range (R60). -/
def BudgetArgs.inRange (p : BudgetArgs) : Bool :=
  decide (clamp 50 100 p.derate = p.derate ∧ clamp 0 1023 p.overhead = p.overhead
    ∧ clamp 0 8191 p.threshold = p.threshold ∧ clamp 1 60 p.shedTimeout = p.shedTimeout)

end Sys2Proof

namespace Sys2Proof.Machine

/-- The payload of Read Own Slot and Read Slot (section 12.3, R180). -/
def slotPayload (i : SlotId) (r : SlotRec) (blade : Option BladeIdentity) : List Byte :=
  let flag := fun (b : Bool) (n : Nat) => if b then 2 ^ n else 0
  let state : Nat := match r.state with
    | .empty => 0 | .detecting => 1 | .seated => 2 | .mute => 3 | .standby => 4
    | .queued => 5 | .precharge => 6 | .on => 7 | .stopping => 8 | .faulted => 9
  let lines := flag r.presence 0 + flag r.latchOpen 1 + flag r.autoPowerOn 2 + flag r.mayRequest 3 + flag r.hold 4
    + flag r.lastStopForced 5 + flag r.restore 6 + flag r.throttle 7
  let parts := flag r.holdingSource.isSome 0 + flag r.stopReason.isSome 1 + flag r.faultCause.isSome 2
    + flag blade.isSome 3
  let source : Nat := match r.holdingSource with
    | none => 0 | some .urgent => 1 | some .queue => 2 | some .admission => 3
  let reason : Nat := match r.stopReason with
    | none => 0 | some .requested => 1 | some .eject => 2 | some .shed => 3
  let cause : Nat := match r.faultCause with
    | none => 0 | some .noPowerGood => 1 | some .overcurrent => 2 | some .powerGoodLost => 3
  let pulse : Nat := match r.pulse with
    | .idle => 0 | .delaying _ _ => 1 | .asserting _ => 2
  let one := fun (n : Nat) => [BitVec.ofNat 8 n]
  one i.val ++ one state ++ one lines ++ one r.tier.val ++ one r.zone.val ++ bytes2 r.shutdownTimeout
    ++ bytes2 r.resetDelay ++ bytes2 r.resetWidth ++ bytes2 r.m ++ one r.c ++ bytes2 r.cap ++ one parts ++ one source
    ++ one reason ++ bytes4 (r.deadline.getD 0) ++ one cause ++ one r.violations ++ one pulse
    ++ bytes2 ((blade.map (·.floor)).getD 0) ++ bytes2 ((blade.map (·.maximum)).getD 0)

/-! ### Identity blocks (section 12.5) -/

/-- The kind code of a supply block. -/
def supplyKind : Byte := 0xA1#8
/-- The kind code of an uplink block. -/
def uplinkKind : Byte := 0xA2#8

/-- Whether a header settles the block's length: a known kind, and a serial length of 1–16 (R181). -/
def headerGood (kind serialLength : Byte) : Bool :=
  (kind == supplyKind || kind == uplinkKind) && decide (1 ≤ serialLength.toNat) && decide (serialLength.toNat ≤ 16)

/-- The length a good header gives its block: 8 + S for a supply, 10 + S for an uplink module (R181). -/
def blockLength (kind serialLength : Byte) : Nat :=
  (if kind = supplyKind then 8 else 10) + serialLength.toNat

/-- Byte `n` of a block. -/
def byteAt (block : List Byte) (n : Nat) : Byte := block.getD n 0

/-- The two-byte number at byte `n` of a block, most significant byte first. -/
def wordAt (block : List Byte) (n : Nat) : Nat := (byteAt block n).toNat * 256 + (byteAt block (n + 1)).toNat

/-- Whether the bytes are one whole block: a good header and the length it gives. -/
def blockWhole (block : List Byte) : Bool :=
  decide (5 ≤ block.length) && headerGood (byteAt block 0) (byteAt block 4)
    && block.length == blockLength (byteAt block 0) (byteAt block 4)

/-- What a read listens to of the bytes a module sends: five bytes where the header gives no length, since the read ends there,
and otherwise the declared length, the bytes beyond it unheard; none while the bytes that would end the read have not all
arrived (R181). -/
def heardBlock (block : List Byte) : Option (List Byte) :=
  let n := if headerGood (byteAt block 0) (byteAt block 4) then blockLength (byteAt block 0) (byteAt block 4) else 5
  if block.length < 5 ∨ block.length < n then none else some (block.take n)

/-- Whether all the bytes of a block add to 0 modulo 256 (R153). -/
def sumGood (block : List Byte) : Bool := (block.map (·.toNat)).sum % 256 == 0

/-- The common fields of a block. -/
def blockCommon (block : List Byte) : Common where
  model := BitVec.ofNat 16 (wordAt block 1)
  revision := byteAt block 3
  serial := (block.drop 5).take (byteAt block 4).toNat

/-- The identity a whole block declares, where every field lies in its range (R148, R181). -/
def blockIdentity (block : List Byte) : Option Identity :=
  let at5 := 5 + (byteAt block 4).toNat
  if byteAt block 0 = supplyKind then
    if wordAt block at5 ≤ 4095 then some (.supply (blockCommon block) (wordAt block at5)) else none
  else
    let fabric := (byteAt block at5).toNat
    let capacity := (byteAt block (at5 + 1)).toNat
    let reserve := wordAt block (at5 + 2)
    if 1 ≤ fabric ∧ fabric ≤ 15 ∧ capacity ≤ 28 ∧ reserve ≤ 1023 then
      some (.uplink ⟨blockCommon block, fabric, capacity, reserve⟩)
    else none

/-- The result of a read whose last byte has arrived, in the order of R153 and R181: the sum, the kind and the field ranges,
then the kind against the bay. -/
def judgeBlock (pos : Position) (block : List Byte) : InvState × Option Identity :=
  if !blockWhole block || !sumGood block then (.unreadable, none)
  else match blockIdentity block, pos with
    | none, _ => (.unreadable, none)
    | some (.supply c r), .supply _ => (.identified, some (.supply c r))
    | some (.uplink u), .uplink _ => (.identified, some (.uplink u))
    | some _, _ => (.mismatch, none)

end Sys2Proof.Machine
end

