-- ==== Sys2Proof/Machine/State.lean ====
section
/-! DEFINITION. The state of the whole controller, the reasons a step can stop, and the state after the cold reset of
power-on (R171). The manual has no processor in it: a state is the eight blocks' records, the lines, and the queue of
commands that wait. -/

namespace Sys2Proof.Machine

/-- The controller: one field for each of the eight blocks of 00_scope.md (`slots` is SLC's slot table), the levels of the
input lines, the count of free values used so far (the MODEL's own field, log entry 3), and the commands that wait, first
in, first out (the interface's own field). -/
structure State where
  slots : Vector SlotRec 14
  psq : Psq
  bdu : Bdu
  ssc : Ssc
  clc : Clc
  lxc : Lxc
  inv : Inv
  lnk : Lnk
  lines : Lines
  freeCount : Nat
  pending : List Instr
  deriving DecidableEq, Repr

/-- The faults of a step: NONE. The manual names no event that stops the controller and calls none undefined, so no
command ever ends in a fault (safe: nothing is hidden behind one). -/
inductive Fault where
  deriving DecidableEq, Repr

/-- The refusals of a step. -/
inductive Refusal where
  /-- Raised by an arm of `exec` whose command has no meaning yet; no arm of this model raises it (safe). -/
  | notModelled (mnemonic : String)
  deriving DecidableEq, Repr

/-- The state right after the cold reset of power-on in an empty chassis (R24, R46, R62, R80, R94, R114, R123, R146, R157,
R172, R177): every Cold value, and the first scan, which R94 starts at once, in flight. The lines' levels are the model's
choice (log entry 6); the cold reset of any other lines is `Sys2Proof.Machine.execPowerOn`. -/
def State.reset : State where
  slots := tabulate (coldSlot idleLines)
  psq := coldPsq
  bdu := coldBdu idleLines
  ssc := { coldSsc with scan := some ⟨.periodic, indexes 20, indexes 20, channelMs⟩ }
  clc := coldClc
  lxc := coldLxc idleLines
  inv := coldInv
  lnk := resetLnk .cold none
  lines := idleLines
  freeCount := 0
  pending := []

end Sys2Proof.Machine
end

