-- ==== Sys2Proof/Machine/Ops.lean ====
section
/-! DEFINITION. The named reads and writes of the records and tables of the controller, and the passing of time. -/

namespace Sys2Proof.Machine

/-- What a command answers. -/
abbrev Out := Host.Outcome State Fault Refusal

/-- `f` where `c` holds, otherwise nothing. -/
def doWhen (c : Bool) (f : State → State) (s : State) : State := if c then f s else s

/-! ### One record of a table -/

def State.slot (s : State) (i : SlotId) : SlotRec := s.slots.get i
def State.supply (s : State) (b : SupplyBay) : SupplyRec := s.bdu.supplies.get b
def State.reading (s : State) (c : Channel) : Reading := s.ssc.readings.get c
def State.zone (s : State) (z : ZoneId) : ZoneRec := s.clc.zones.get z
def State.fan (s : State) (b : FanBay) : FanRec := s.clc.fans.get b
def State.bay (s : State) (b : UplinkBay) : BayRec := s.lxc.bays.get b
def State.lane (s : State) (l : LaneId) : LaneRec := s.lxc.lanes.get l
def State.record (s : State) (n : RecNo) : InvRec := s.inv.records.get n
def State.port (s : State) (p : Port) : PortRec := s.lnk.ports.get p

def State.modSlot (i : SlotId) (f : SlotRec → SlotRec) (s : State) : State :=
  { s with slots := put s.slots i (f (s.slots.get i)) }
def State.modSupply (b : SupplyBay) (f : SupplyRec → SupplyRec) (s : State) : State :=
  { s with bdu := { s.bdu with supplies := put s.bdu.supplies b (f (s.bdu.supplies.get b)) } }
def State.modZone (z : ZoneId) (f : ZoneRec → ZoneRec) (s : State) : State :=
  { s with clc := { s.clc with zones := put s.clc.zones z (f (s.clc.zones.get z)) } }
def State.modFan (b : FanBay) (f : FanRec → FanRec) (s : State) : State :=
  { s with clc := { s.clc with fans := put s.clc.fans b (f (s.clc.fans.get b)) } }
def State.modBay (b : UplinkBay) (f : BayRec → BayRec) (s : State) : State :=
  { s with lxc := { s.lxc with bays := put s.lxc.bays b (f (s.lxc.bays.get b)) } }
def State.modLane (l : LaneId) (f : LaneRec → LaneRec) (s : State) : State :=
  { s with lxc := { s.lxc with lanes := put s.lxc.lanes l (f (s.lxc.lanes.get l)) } }
def State.modRecord (n : RecNo) (f : InvRec → InvRec) (s : State) : State :=
  { s with inv := { s.inv with records := put s.inv.records n (f (s.inv.records.get n)) } }
def State.modPort (p : Port) (f : PortRec → PortRec) (s : State) : State :=
  { s with lnk := { s.lnk with ports := put s.lnk.ports p (f (s.lnk.ports.get p)) } }

/-- One change of the line levels. -/
def State.setLines (f : Lines → Lines) (s : State) : State := { s with lines := f s.lines }

/-! ### Figures read from another block's records -/

/-- The blade identity of a slot, while its inventory record is IDENTIFIED (R148). -/
def State.blade (s : State) (i : SlotId) : Option BladeIdentity :=
  match (s.record (bladeRecord i)).identity with
  | some (.blade b) => some b
  | _ => none

/-- The floor f of a slot's blade, read from its inventory record; 0 while it has none (section 1.2, R180). -/
def State.floor (s : State) (i : SlotId) : Nat := ((s.blade i).map (·.floor)).getD 0

/-- The maximum of a slot's blade, read from its inventory record; 0 while it has none (section 1.2, R180). -/
def State.maximum (s : State) (i : SlotId) : Nat := ((s.blade i).map (·.maximum)).getD 0

/-- PRECHARGE, ON and STOPPING: the states with the main switch closed (section 1.1). -/
def SlotState.powered : SlotState → Bool
  | .precharge | .on | .stopping => true
  | _ => false

/-- ON and STOPPING: the states whose lanes may be in service (R129) and whose cooling demand counts (R97). -/
def SlotState.running : SlotState → Bool
  | .on | .stopping => true
  | _ => false

/-! ### Rounds of the sequencer -/

/-- An event of R37 has happened: a round is to run once the blocks have done the work of this event (log entry 5). -/
def callRound (s : State) : State := { s with psq := { s.psq with roundDue := true } }

/-! ### The passing of time

One step on an empty queue is one ms in which nothing else happens (log entry 1). A timer counts down to 0 and stays there
until the command that is its expiry. -/

/-- One ms off a running timer. -/
def tickTimer (t : Option Nat) : Option Nat := t.map (· - 1)

def tickPulse : Pulse → Pulse
  | .idle => .idle
  | .delaying left width => .delaying (left - 1) width
  | .asserting left => .asserting (left - 1)

def tickSlot (r : SlotRec) : SlotRec :=
  { r with deadline := tickTimer r.deadline, pulse := tickPulse r.pulse, debounce := tickTimer r.debounce,
           announceTimer := tickTimer r.announceTimer }

def tickResource : Resource → Resource
  | .free => .free
  | .precharging i src n left => .precharging i src n (left - 1)
  | .gap left => .gap (left - 1)

def tickLane (r : LaneRec) : LaneRec :=
  match r.state with
  | .moving t left => { r with state := .moving t (left - 1) }
  | _ => r

/-- One ms at every block. -/
def tick (s : State) : State :=
  { s with
    slots := tabulate fun i => tickSlot (s.slots.get i)
    psq := { s.psq with resource := tickResource s.psq.resource }
    ssc := { s.ssc with
      scan := s.ssc.scan.map fun c => { c with left := c.left - 1 }
      periodTimer := tickTimer s.ssc.periodTimer }
    clc := { s.clc with
      tachCounter := s.clc.tachCounter + 1000#16
      search := s.clc.search.map fun c => { c with settle := c.settle - 1 } }
    lxc := { s.lxc with
      bays := tabulate fun b => { s.lxc.bays.get b with hold := tickTimer (s.lxc.bays.get b).hold }
      lanes := tabulate fun l => tickLane (s.lxc.lanes.get l) }
    inv := { s.inv with readLeft := tickTimer s.inv.readLeft }
    lnk := { s.lnk with
      periodLeft := tickTimer s.lnk.periodLeft
      resetMeasure := s.lnk.resetMeasure.map (· + 1) } }

end Sys2Proof.Machine
end

