-- ==== Sys2Proof/Machine/Flags.lean ====
section
/-! DEFINITION. The notice flags: the sixteen conditions, who is entitled to each, and the raise (chapter 11). -/

namespace Sys2Proof.Machine

/-- The bit of a condition in every notice set (section 11.1, R173). -/
def Cond.bit : Cond → Nat
  | .slotState => 0 | .capChanged => 1 | .shutdownAsked => 2 | .laneChanged => 3
  | .headroomLow => 4 | .headroomOk => 5 | .redundancy => 6 | .shed => 7
  | .fanFault => 8 | .thermalTrip => 9 | .sequenceStep => 10 | .inventory => 11
  | .primacy => 12 | .characteriseDone => 13 | .sensorStale => 14 | .posted => 15

/-- The seven conditions a slot link may select and is entitled to (R173, R174): SLOT_STATE, CAP_CHANGED, SHUTDOWN_ASKED,
LANE_CHANGED, SHED, THERMAL_TRIP and POSTED. -/
def slotLinkConditions : BitVec 16 := 0x828F#16

/-- The conditions a port is entitled to (R173). That a slot's own event alone is offered to its port is in the offer. -/
def entitlement (p : Port) : BitVec 16 := if p.val < 14 then slotLinkConditions else BitVec.allOnes 16

/-- The two supervisor ports. -/
def supervisors : BitVec 16 := 0xC000#16

/-- The slot link of one slot. -/
def ownPort (i : SlotId) : BitVec 16 := BitVec.twoPow 16 i.val

/-- The slot's own port and both supervisor ports. -/
def ownAndSupervisors (i : SlotId) : BitVec 16 := ownPort i ||| supervisors

/-- Every port. -/
def everyPort : BitVec 16 := BitVec.allOnes 16

/-- Whether a raise of `c` offered to `ports` becomes pending on port `p` (R173). -/
def receives (c : Cond) (ports : BitVec 16) (p : Port) (r : PortRec) : Bool :=
  ports.getLsbD p && (entitlement p).getLsbD c.bit && r.selected.getLsbD c.bit

/-- The raise at one port: the condition becomes pending and the attention line asserted (R173, R175). -/
def raiseAt (c : Cond) (ports : BitVec 16) (p : Port) (r : PortRec) : PortRec :=
  if receives c ports p r then { r with pending := setBit r.pending c.bit true, attention := true } else r

/-- A block reports an event: LNK raises `c`, offered to `ports` (R173). -/
def raise (c : Cond) (ports : BitVec 16) (s : State) : State :=
  { s with lnk := { s.lnk with ports := tabulate fun p => raiseAt c ports p (s.lnk.ports.get p) } }

/-- SLC changes a slot's state, which raises SLOT_STATE (R2). -/
def enter (i : SlotId) (st : SlotState) (s : State) : State :=
  raise .slotState (ownAndSupervisors i) (s.modSlot i fun r => { r with state := st })

end Sys2Proof.Machine
end

