-- ==== Sys2Proof/Machine/Lanes.lean ====
section
/-! DEFINITION. The shared work of LXC: release, placement, the wait list, the rescan, failover and failback
(sections 8.2 to 8.7). -/

namespace Sys2Proof.Machine

/-- Whether a lane is in service (R129). -/
def inService (s : State) (l : LaneId) : Bool :=
  (s.lane l).fabric != 0 && (s.lane l).enable && (s.slot (laneSlot l)).state.running

/-- The resting state a lane's fields call for while it is out of service (R129). -/
def restingState (r : LaneRec) : LaneState :=
  if r.fabric = 0 then .none else if r.enable = false then .disabled else .idle

/-- The bay a lane is BOUND or MOVING to. -/
def laneBay (r : LaneRec) : Option UplinkBay :=
  match r.state with
  | .bound b => some b
  | .moving b _ => some b
  | _ => none

/-- LANE_CHANGED for a lane, offered to its slot's port and the supervisors (R141). -/
def raiseLane (l : LaneId) (s : State) : State := raise .laneChanged (ownAndSupervisors (laneSlot l)) s

/-- The lane record's state is written; notices and counts are the caller's. -/
def setLaneState (l : LaneId) (st : LaneState) (s : State) : State := s.modLane l fun r => { r with state := st }

/-- Releasing a lane from the bay it is BOUND or MOVING to: the count falls, the move timer ends, the bay or target becomes
absent, and leaving BOUND raises LANE_CHANGED (R131, R141). The lane stands in IDLE until the event places it or puts it
in its resting state. -/
def releaseLane (l : LaneId) (s : State) : State :=
  match (s.lane l).state with
  | .bound b => raiseLane l (setLaneState l .idle (s.modBay b fun r => { r with bound := r.bound - 1 }))
  | .moving b _ => setLaneState l .idle (s.modBay b fun r => { r with movingIn := r.movingIn - 1 })
  | _ => s

/-- A lane leaves the wait list; the lanes behind it close up (R132). -/
def leaveWaitList (l : LaneId) (s : State) : State :=
  { s with lxc := { s.lxc with waitList := s.lxc.waitList.filter (· != l) } }

/-- A lane goes, or stays, out of service: released, off the wait list, in its resting state (R129). -/
def takeOut (l : LaneId) (s : State) : State :=
  (leaveWaitList l (releaseLane l s)).modLane l fun r => { r with state := restingState r }

/-- Whether bay `b` can take a lane of fabric `f`: UP, of that fabric, with room (R130). -/
def bayTakes (r : BayRec) (f : Nat) : Bool :=
  r.state == .up && r.fabric == f && decide (r.bound + r.movingIn < r.capacity)

/-- The target a placement finds: the first bay of the preference list that can take the lane (R130). -/
def target (s : State) (l : LaneId) : Option UplinkBay :=
  (s.lane l).pref.find? fun b => bayTakes (s.bay b) (s.lane l).fabric

/-- Whether a bay of the lane's list has the lane's fabric, whatever the bay's state (R130). -/
def hasFabric (s : State) (l : LaneId) : Bool :=
  (s.lane l).pref.any fun b => (s.bay b).fabric == (s.lane l).fabric

/-- A lane enters MOVING towards a bay, with the move time then set (R134). -/
def startMove (l : LaneId) (b : UplinkBay) (s : State) : State :=
  setLaneState l (.moving b s.lxc.moveTime) (s.modBay b fun r => { r with movingIn := r.movingIn + 1 })

/-- A lane enters WAITING at the tail of the wait list (R130, R141). -/
def enterWaiting (l : LaneId) (s : State) : State :=
  raiseLane l (setLaneState l .waiting { s with lxc := { s.lxc with waitList := s.lxc.waitList ++ [l] } })

/-- A lane enters INCOMPATIBLE (R130, R141). -/
def enterIncompatible (l : LaneId) (s : State) : State := raiseLane l (setLaneState l .incompatible s)

/-- Placing a lane that is in no bay and on no list (R130). -/
def placeLane (l : LaneId) (s : State) : State :=
  match target s l with
  | some b => startMove l b s
  | none => if hasFabric s l then enterWaiting l s else enterIncompatible l s

/-- Step 1 of a rescan, for one lane of the wait list (R133). -/
def rescanWaiting (s : State) (l : LaneId) : State :=
  match target s l with
  | some b => startMove l b (leaveWaitList l s)
  | none => if hasFabric s l then s else enterIncompatible l (leaveWaitList l s)

/-- Step 2 of a rescan, for one lane: an INCOMPATIBLE lane is placed, or stays (R133). -/
def rescanIncompatible (s : State) (l : LaneId) : State :=
  if (s.lane l).state = .incompatible then
    match target s l with
    | some b => startMove l b s
    | none => if hasFabric s l then enterWaiting l s else s
  else s

/-- The rescan: the wait list from head to tail, then the INCOMPATIBLE lanes in ascending order (R133). -/
def rescan (s : State) : State :=
  (indexes 28).foldl rescanIncompatible (s.lxc.waitList.foldl rescanWaiting s)

/-- Lanes are displaced: each is released, the rescan runs, and each is placed in ascending lane number (R138, R139). -/
def displace (ls : List LaneId) (s : State) : State :=
  ls.foldl (fun s l => placeLane l s) (rescan (ls.foldl (fun s l => releaseLane l s) s))

/-- The lanes BOUND or MOVING to a bay, in ascending lane number. -/
def lanesOn (s : State) (b : UplinkBay) : List LaneId :=
  (indexes 28).filter fun l => laneBay (s.lane l) == some b

/-- A bay that has left UP, or changed its fabric code, gives up its lanes (R138, R139). -/
def giveUpLanes (b : UplinkBay) (s : State) : State := displace (lanesOn s b) s

/-- Both lanes of a slot leave service as its power is removed, with a rescan where one was released from a bay that is UP
(R137). -/
def lanesOut (i : SlotId) (s : State) : State :=
  let onUp := fun l => ((laneBay (s.lane l)).map fun b => (s.bay b).state == .up).getD false
  doWhen (onUp (laneA i) || onUp (laneB i)) rescan (takeOut (laneB i) (takeOut (laneA i) s))

/-- One lane of a slot that has reached ON enters service if it can (R136). -/
def bringIn (l : LaneId) (s : State) : State := doWhen (inService s l) (placeLane l) s

/-- A slot has reached ON: lane A and then lane B are placed (R136). -/
def lanesIn (i : SlotId) (s : State) : State := bringIn (laneB i) (bringIn (laneA i) s)

/-- INV reports the fabric codes of a slot's blade record; the lanes rest as R129 calls for (R128, R150). -/
def setFabrics (i : SlotId) (a b : Nat) (s : State) : State :=
  let one := fun (l : LaneId) (f : Nat) (s : State) => takeOut l (s.modLane l fun r => { r with fabric := f })
  one (laneB i) b (one (laneA i) a s)

/-- Whether failback moves a lane to `y`: it is BOUND to another bay, `y` ranks above that bay in its list, has its fabric
and has room (R140). -/
def failsBack (s : State) (y : UplinkBay) (l : LaneId) : Bool :=
  match (s.lane l).state with
  | .bound b =>
    (s.lane l).pref.contains y && decide ((s.lane l).pref.idxOf y < (s.lane l).pref.idxOf b)
      && (s.bay y).fabric == (s.lane l).fabric
      && decide ((s.bay y).bound + (s.bay y).movingIn < (s.bay y).capacity)
  | _ => false

/-- One lane of the failback walk; the flag says whether any lane has left its bay (R140). -/
def failbackLane (y : UplinkBay) (acc : State × Bool) (l : LaneId) : State × Bool :=
  if failsBack acc.1 y l then (startMove l y (releaseLane l acc.1), true) else acc

/-- The failback walk to a bay that has entered UP, and the rescan for the room it frees (R140). -/
def failbackWalk (y : UplinkBay) (s : State) : State :=
  let r := (indexes 28).foldl (failbackLane y) (s, false)
  doWhen r.2 rescan r.1

/-- A bay enters UP: the hold timer stops, the rescan runs, and failback where it is on (R126, R140). -/
def enterUp (b : UplinkBay) (s : State) : State :=
  let s := rescan (s.modBay b fun r => { r with state := .up, hold := none })
  doWhen s.lxc.failback (failbackWalk b) s

/-- The hold of a bay in DOWN whose link is up begins: with a hold of 0 ms the bay is UP at once (R126). -/
def startHold (b : UplinkBay) (s : State) : State :=
  if s.lxc.linkHold = 0 then enterUp b s else s.modBay b fun r => { r with hold := some s.lxc.linkHold }

end Sys2Proof.Machine
end

