-- ==== Sys2Proof/Machine/Budget.lean ====
section
/-! DEFINITION. The shared work of BDU: the capacity chain (R51 to R54), the cap pass (R63 to R66), shed selection (R71 to
R75) and the budget evaluation (R56); with the pieces of SLC and PSQ that selection reaches: the stop of a victim (R15) and
the abort of a precharge (R40, R72). -/

namespace Sys2Proof.Machine

/-! ### Capacity, reserve, pool, floors, headroom -/

def sumOf {α : Type} (f : α → Nat) (l : List α) : Nat := (l.map f).sum

/-- The healthy set h (R51). -/
def healthySet (s : State) : List SupplyBay := (indexes 6).filter fun b => (s.supply b).state == .healthy

/-- Whether the requirement of the redundancy mode is met (R51). -/
def requirementMet (s : State) : Bool :=
  match s.bdu.policy.mode with
  | .none => true
  | .nPlus1 => decide (2 ≤ (healthySet s).length)
  | .nPlusN => (healthySet s).any inGridA && (healthySet s).any fun b => !inGridA b

/-- The redundancy condition that the supply records and the mode give (R51). -/
def conditionOf (s : State) : Redundancy := if requirementMet s then .met else .lost

/-- The raw capacity U₀ (R51). -/
def rawCapacity (s : State) : Nat :=
  let h := healthySet s
  let r := fun b => (s.supply b).rating
  let total := sumOf r h
  if requirementMet s then
    match s.bdu.policy.mode with
    | .none => total
    | .nPlus1 => total - (h.map r).foldl max 0
    | .nPlusN => min (sumOf r (h.filter inGridA)) (sumOf r (h.filter fun b => !inGridA b))
  else total

/-- The usable capacity U (R52). -/
def usable (s : State) : Nat := rawCapacity s * s.bdu.policy.derate / 100

/-- The reserve R (R53). -/
def reserve (s : State) : Nat := s.bdu.fanReserve + s.bdu.uplinkReserve + s.bdu.policy.overhead

/-- The blade pool B: U − R, and 0 when U < R (R54). -/
def pool (s : State) : Nat := usable s - reserve s

/-- The committed floor of a slot; 0 where its entry is absent (R54). -/
def committedFloor (s : State) (i : SlotId) : Nat := (s.bdu.floors.get i).getD 0

/-- The committed floors F (R54). -/
def committed (s : State) : Nat := sumOf (committedFloor s) (indexes 14)

/-- The headroom H = B − F, signed (R54). -/
def headroom (s : State) : Int := (pool s : Int) - (committed s : Int)

/-! ### Effective demand and the cap pass -/

/-- The effective demand e = f + floor((m − f) × k / 100) (R63). -/
def effective (s : State) (i : SlotId) : Nat :=
  s.floor i + ((s.slot i).m - s.floor i) * (s.zone (s.slot i).zone).k / 100

/-- What an ON slot asks beyond its floor (R65). -/
def asks (s : State) (i : SlotId) : Nat := effective s i - s.floor i

/-- The ON slots of a tier, in ascending slot number (R65). -/
def tierMembers (s : State) (t : Fin 4) : List SlotId :=
  (indexes 14).filter fun i => (s.slot i).state == .on && (s.slot i).tier == t

/-- W: what the ON slots of a tier ask beyond their floors (R65). -/
def tierWant (s : State) (t : Fin 4) : Nat := sumOf (asks s) (tierMembers s t)

/-- The extra left after one tier is taken from `extra` (R65). -/
def afterTier (s : State) (extra : Nat) (t : Fin 4) : Nat :=
  if tierWant s t ≤ extra then extra - tierWant s t else 0

/-- The tiers in the order the pass takes them (R65). -/
def tiersDown : List (Fin 4) := [3, 2, 1, 0]

/-- The extra E standing when a tier is taken (R65). -/
def extraBefore (s : State) (t : Fin 4) : Nat :=
  (tiersDown.takeWhile (· != t)).foldl (afterTier s) (pool s - committed s)

/-- The extra left undistributed when tier 0 has been taken (R65). -/
def leftover (s : State) : Nat := tiersDown.foldl (afterTier s) (pool s - committed s)

/-- A slot's share of an extra smaller than its tier asks (R66). -/
def share (s : State) (extra : Nat) (i : SlotId) : Nat :=
  asks s i * extra / tierWant s (s.slot i).tier

/-- The slots of a tier that take one leftover watt: the first L with e > f (R66). -/
def luckySlots (s : State) (extra : Nat) (t : Fin 4) : List SlotId :=
  ((tierMembers s t).filter fun i => decide (0 < asks s i)).take (extra - sumOf (share s extra) (tierMembers s t))

/-- The cap of an ON slot by distribution (R65, R66). -/
def distributedCap (s : State) (i : SlotId) : Nat :=
  let t := (s.slot i).tier
  let extra := extraBefore s t
  if tierWant s t ≤ extra then effective s i
  else s.floor i + share s extra i + (if (luckySlots s extra t).contains i then 1 else 0)

/-- The cap one run of the pass writes to a slot; none where it writes nothing (R64). -/
def passCap (s : State) (i : SlotId) : Option Nat :=
  match (s.slot i).state with
  | .precharge | .stopping => some (s.floor i)
  | .on => some (if committed s ≤ pool s then distributedCap s i else s.floor i)
  | _ => none

/-- What the pass records for Read Budget (R64, R79). The k of a slot is that of the zone the slot has at the pass, and stays so
when the slot is given another zone without a pass: the model's choice (log entry 26). -/
def passRecord (s : State) : LastPass where
  outcome := if committed s ≤ pool s then .distributed else .floors
  leftover := if committed s ≤ pool s then leftover s else 0
  k := tabulate fun i => if (s.slot i).state.powered then some (s.zone (s.slot i).zone).k else none
  e := tabulate fun i => if (s.slot i).state = .on then some (effective s i) else none

/-- One run of the cap pass: every cap is computed from the figures standing and all are written together (R64). -/
def runPass (s : State) : State :=
  { s with
    slots := tabulate fun i => { s.slots.get i with cap := (passCap s i).getD (s.slots.get i).cap }
    bdu := { s.bdu with lastPass := passRecord s } }

/-! ### Leaving ON, leaving power, stops and aborts, at SLC and PSQ -/

/-- Leaving ON: the throttle is released, the violation count cleared, the reset pulse cancelled (R17, R18). -/
def leaveOn (r : SlotRec) : SlotRec :=
  { r with throttle := false, violations := 0, pulse := .idle, resetLine := false }

/-- The work of R8 on the slot record: the switch opens, with `leaveOn`, and the stop's reason and deadline go. -/
def unpower (r : SlotRec) : SlotRec :=
  { leaveOn r with mainSwitch := false, stopReason := none, deadline := none }

/-- A slot in ON enters STOPPING; the blade is told with SHUTDOWN_ASKED (R6, R11, R15). -/
def startStop (i : SlotId) (reason : StopReason) (deadline : Nat) (s : State) : State :=
  raise .shutdownAsked (ownPort i)
    (enter i .stopping (s.modSlot i fun r => { leaveOn r with stopReason := some reason, deadline := some deadline }))

/-- The shed timeout in ms (section 3.6). -/
def shedMs (s : State) : Nat := s.bdu.policy.shedTimeout * 1000

/-- A victim taken from ON: a stop with reason SHED, and the restore flag set if auto-restore is on (R15, R75). -/
def stopVictim (s : State) (i : SlotId) : State :=
  startStop i .shed (shedMs s)
    (s.modSlot i fun r => { r with restore := r.restore || s.bdu.policy.autoRestore })

/-- A STOPPING slot is relabelled SHED; its deadline becomes the earlier of the time remaining and the shed timeout (R15,
R74). -/
def relabelVictim (s : State) (i : SlotId) : State :=
  raise .shutdownAsked (ownPort i)
    (s.modSlot i fun r => { r with
      stopReason := some .shed, deadline := some (min (r.deadline.getD (shedMs s)) (shedMs s)) })

/-- An aborted slot goes back to its source: URGENT's or QUEUE's backup stage, or the ADMIT pending set (R40). -/
def returnToSource (i : SlotId) (src : Source) (notify : Bool) (p : Psq) : Psq :=
  match src with
  | .urgent => { p with urgentBackup := some ⟨i, false, notify⟩ }
  | .queue => { p with queueBackup := some ⟨i, false, notify⟩ }
  | .admission => { p with pendingSet := setBit p.pendingSet i true }

/-- The abort of a precharge at SLC, PSQ and LXC: R8's work by the abort route, the slot QUEUED in its source again, and
the resource FREE at once, on which a round runs (R8, R37, R40). BDU's release is the caller's. -/
def abortPrecharge (i : SlotId) (src : Source) (notify : Bool) (s : State) : State :=
  let s := enter i .queued (s.modSlot i fun r => { unpower r with holdingSource := some src })
  let s := lanesOut i s
  callRound { s with psq := { returnToSource i src notify s.psq with resource := .free } }

/-- BDU makes a slot's committed entry absent and writes cap = 0 (R55). -/
def releaseFloor (i : SlotId) (s : State) : State :=
  let s := s.modSlot i fun r => { r with cap := 0 }
  { s with bdu := { s.bdu with floors := put s.bdu.floors i none } }

/-! ### Shed selection -/

/-- F′: the committed floors less those of the slots already in the shed set (R71). -/
def uncoveredFloors (s : State) : Nat := committed s - sumOf (committedFloor s) s.bdu.shedSet

/-- Candidates in shed order: lowest tier first, within a tier the highest slot number first (R73, R74). -/
def shedOrder (s : State) (p : SlotRec → Bool) : List SlotId :=
  (indexes 4).flatMap fun t => (indexes 14).reverse.filter fun i => p (s.slot i) && (s.slot i).tier == t

/-- Names candidates one at a time while `left` exceeds `b`, passing over floors of 0; what it names, and what is then left
(R73, R74). -/
def nameVictims (floor : SlotId → Nat) (b : Nat) : List SlotId → Nat → List SlotId × Nat
  | [], left => ([], left)
  | i :: rest, left =>
    if left ≤ b then ([], left)
    else if floor i = 0 then nameVictims floor b rest left
    else
      let r := nameVictims floor b rest (left - floor i)
      (i :: r.1, r.2)

/-- Candidates of R74: STOPPING with reason REQUESTED or EJECT. -/
def relabelCandidate (r : SlotRec) : Bool :=
  r.state == .stopping && (r.stopReason == some .requested || r.stopReason == some .eject)

/-- The set of ports of a list of slots. -/
def portsOf (l : List SlotId) : BitVec 16 := l.foldl (fun m i => m ||| ownPort i) 0

/-- The first step of selection: the precharge in flight, if any, is aborted and its floor released within the evaluation
(R72); with the slot it aborted. -/
def shedAbort (s : State) : State × List SlotId :=
  match s.psq.resource with
  | .precharging i src notify _ =>
    if (s.slot i).state = .precharge then (releaseFloor i (abortPrecharge i src notify s), [i]) else (s, [])
  | _ => (s, [])

/-- Steps two and three of selection and the hand-over to SLC, after an abort of `aborted` (R73, R74, R75). -/
def nameAndStop (aborted : List SlotId) (s : State) : State :=
  let on := nameVictims (committedFloor s) (pool s) (shedOrder s fun r => r.state == .on) (uncoveredFloors s)
  let relabelled := nameVictims (committedFloor s) (pool s) (shedOrder s relabelCandidate) on.2
  let s := relabelled.1.foldl relabelVictim (on.1.foldl stopVictim s)
  let named := on.1 ++ relabelled.1
  let s := { s with bdu := { s.bdu with shedSet := s.bdu.shedSet ++ named } }
  doWhen (!(aborted ++ named).isEmpty) (raise .shed (supervisors ||| portsOf (aborted ++ named))) s

/-- Shed selection (R71): nothing while F′ ≤ B; otherwise the three steps, each while F′ still exceeds B. -/
def shedSelection (s : State) : State :=
  if uncoveredFloors s ≤ pool s then s
  else
    let r := shedAbort s
    nameAndStop r.2 r.1

/-! ### The budget evaluation -/

/-- Step 2 of the evaluation: the cap pass, with shed selection and a second run where F > B (R64). -/
def capPass (s : State) : State :=
  if committed s ≤ pool s then runPass s else runPass (shedSelection (runPass s))

/-- CAP_CHANGED for each slot the pass wrote whose cap differs from the one standing when step 2 began (R68). -/
def raiseCapChanges (before : State) (s : State) : State :=
  let changed := (indexes 14).filter fun i => (s.slot i).state.powered && (s.slot i).cap != (before.slot i).cap
  doWhen (!changed.isEmpty) (raise .capChanged (supervisors ||| portsOf changed)) s

/-- Step 3: the headroom threshold side (R58). -/
def takeSide (s : State) : State :=
  let side : Side := if (s.bdu.policy.threshold : Int) ≤ headroom s then .atOrAbove else .below
  let s' := { s with bdu := { s.bdu with side := side } }
  if s.bdu.side = side then s'
  else raise (if side = .below then .headroomLow else .headroomOk) supervisors s'

/-- Step 4: the redundancy condition (R59). -/
def takeRedundancy (s : State) : State :=
  if conditionOf s = s.bdu.redundancy then s
  else raise .redundancy supervisors { s with bdu := { s.bdu with redundancy := conditionOf s } }

/-- The budget evaluation of an event before which the headroom was `before` (R56); step 5 calls for a round if the
headroom has risen. -/
def evaluate (before : Int) (s : State) : State :=
  let s := takeRedundancy (takeSide (raiseCapChanges s (capPass s)))
  doWhen (decide (before < headroom s)) callRound s

/-- An evaluation for an event that is itself no change of B or F: its headroom before is the one standing. -/
def reevaluate (s : State) : State := evaluate (headroom s) s

/-! ### Commit, release, reserve reports -/

/-- BDU commits a winner's floor, writes cap = f and evaluates (R55). -/
def commitFloor (i : SlotId) (s : State) : State :=
  let f := s.floor i
  let t := s.modSlot i fun r => { r with cap := f }
  evaluate (headroom s) { t with bdu := { t.bdu with floors := put t.bdu.floors i (some f) } }

/-- A slot leaves the shed set; the last one to leave ends the shed, and SHED is raised (R71, R77). -/
def leaveShed (i : SlotId) (s : State) : State :=
  let rest := s.bdu.shedSet.filter (· != i)
  let t := { s with bdu := { s.bdu with shedSet := rest } }
  doWhen (s.bdu.shedSet.contains i && rest.isEmpty) (raise .shed (ownAndSupervisors i)) t

/-- BDU takes a report of power removal: the slot's part in a shed ends, its floor is released and an evaluation runs
(R55, R77). -/
def takeRelease (i : SlotId) (s : State) : State :=
  evaluate (headroom s) (leaveShed i (releaseFloor i s))

/-- The fan reserve CLC reports: the type reserves of the fans that are not ABSENT (R53, R102). -/
def fanReserveSum (s : State) : Nat :=
  sumOf (fun b => if (s.fan b).state = .absent then 0 else fanTypeReserve (s.fan b).type) (indexes 8)

/-- CLC reports the fan reserve; a report that changes it runs an evaluation (R53). -/
def reportFanReserve (s : State) : State :=
  if fanReserveSum s = s.bdu.fanReserve then s
  else evaluate (headroom s) { s with bdu := { s.bdu with fanReserve := fanReserveSum s } }

/-- The uplink reserve LXC reports: the reserves of the bays whose module power is on (R53, R125). -/
def uplinkReserveSum (s : State) : Nat :=
  sumOf (fun b => if (s.bay b).power then (s.bay b).reserve else 0) (indexes 4)

/-- LXC reports the uplink reserve; a report that changes it runs an evaluation (R53, R125). -/
def reportUplinkReserve (s : State) : State :=
  if uplinkReserveSum s = s.bdu.uplinkReserve then s
  else evaluate (headroom s) { s with bdu := { s.bdu with uplinkReserve := uplinkReserveSum s } }

end Sys2Proof.Machine
end

