-- ==== Sys2Proof/Machine/Sequencer.lean ====
section
/-! DEFINITION. The shared work of SLC and PSQ: holdings (R28, R31), the removal of power (R8), candidates and the fit test
(R36, R57), the arbitration round (R37 to R39), the abort by preemption (R40) and triggers (R34). -/

namespace Sys2Proof.Machine

/-! ### Holdings -/

/-- Whether PSQ may take a holding for a slot: STANDBY with its latch closed (R28). -/
def mayHold (s : State) (i : SlotId) : Bool := (s.slot i).state == .standby && !(s.slot i).latchOpen

/-- SLC puts a slot that PSQ has taken a holding for in QUEUED with the holding's source (R7, R28). -/
def enterQueued (i : SlotId) (src : Source) (s : State) : State :=
  callRound (enter i .queued (s.modSlot i fun r => { r with holdingSource := some src }))

/-- A single addition to the ADMIT pending set; a slot that is not eligible stays as it is (R31). -/
def admissionAdd (i : SlotId) (s : State) : State :=
  if mayHold s i then
    enterQueued i .admission { s with psq := { s.psq with pendingSet := setBit s.psq.pendingSet i true } }
  else s

/-- The place the trigger flag belongs to (R34): the place the queue would present next that waits for a trigger. A QUEUE
backup stage has its wait-trigger flag clear (R40), so the flag stays with the head it was set for. -/
def triggerPlace (p : Psq) : Option SlotId :=
  match p.queueBackup with
  | some q => if q.wait then some q.slot else p.queue.head?.map (·.slot)
  | none => p.queue.head?.map (·.slot)

/-- A holding stage without slot `i`. -/
def dropPlace (i : SlotId) (p : Option Place) : Option Place := p.filter (·.slot != i)

/-- PSQ removes a slot's holding from wherever it stands, and clears the trigger flag if it was set for that place (R28,
R34). -/
def dropHolding (i : SlotId) (p : Psq) : Psq :=
  { p with
    urgentEntry := dropPlace i p.urgentEntry
    urgentBackup := dropPlace i p.urgentBackup
    queue := p.queue.filter (·.slot != i)
    queueBackup := dropPlace i p.queueBackup
    pendingSet := setBit p.pendingSet i false
    trigger := p.trigger && triggerPlace p != some i }

/-- A QUEUED slot's holding is removed and the slot returns to STANDBY (R7, R28). -/
def removeHolding (i : SlotId) (s : State) : State :=
  let s := { s with psq := dropHolding i s.psq }
  callRound (enter i .standby (s.modSlot i fun r => { r with holdingSource := none }))

/-! ### The removal of power (R8) -/

/-- PSQ is told that the precharge has ended: GAP with the gap then configured, or FREE, on which a round runs, with a gap of
0 ms or where the route frees the resource at once (R8, R27). -/
def endPrecharge (atOnce : Bool) (s : State) : State :=
  if atOnce || s.psq.inrushGap == 0 then callRound { s with psq := { s.psq with resource := .free } }
  else { s with psq := { s.psq with resource := .gap s.psq.inrushGap } }

/-- The removal of power by a route that takes a slot to `st` and leaves its flags as `flags` gives: the work of R8 at SLC,
PSQ, LXC and BDU. -/
def removePower (i : SlotId) (st : SlotState) (flags : SlotRec → SlotRec) (atOnce : Bool) (s : State) : State :=
  let was := (s.slot i).state
  let s := enter i st (s.modSlot i fun r => flags (unpower r))
  let s := doWhen (was == .precharge) (endPrecharge atOnce) s
  takeRelease i (lanesOut i s)

/-- The restore flag is acted on as the slot stands in STANDBY: it is cleared, and with auto-restore on the slot is merged
into the ADMIT pending set (R8, R78). -/
def actOnRestore (i : SlotId) (s : State) : State :=
  if (s.slot i).restore then
    let s := s.modSlot i fun r => { r with restore := false }
    doWhen s.bdu.policy.autoRestore (admissionAdd i) s
  else s

/-- A fault of a powered slot: FAULTED with its cause, R8's work, restore cleared (R8, R9). -/
def faultSlot (i : SlotId) (cause : FaultCause) (s : State) : State :=
  removePower i .faulted (fun r => { r with faultCause := some cause, restore := false }) false s

/-! ### Candidates -/

def Psq.settingsOf (p : Psq) : Source → SourceSettings
  | .urgent => p.urgent
  | .queue => p.queueSettings
  | .admission => p.admission

/-- The sources in the order R38 ranks equal priorities. -/
def sourcesRanked : List Source := [.urgent, .queue, .admission]

/-- The pending slots of ADMIT, in ascending order. -/
def pendingSlots (p : Psq) : List SlotId := (indexes 14).filter fun i => p.pendingSet.getLsbD i

/-- The place a source would consider next, whether or not it could be presented: the backup stage if valid, otherwise the
entry, the head or the lowest-numbered pending slot (R36, R41). -/
def considered (p : Psq) : Source → Option Place
  | .urgent => p.urgentBackup <|> p.urgentEntry
  | .queue => p.queueBackup <|> p.queue.head?
  | .admission => (pendingSlots p).head?.map fun i => ⟨i, false, false⟩

/-- The fit test: the slot's floor is no greater than the headroom, with `released` watts of a named precharge added (R36,
R57). -/
def fits (s : State) (released : Nat) (i : SlotId) : Bool := decide ((s.floor i : Int) ≤ headroom s + released)

/-- The candidate a source presents (R36); `released` is 0 but in the preemption test (R39). -/
def candidate (s : State) (released : Nat) (src : Source) : Option Place :=
  if s.psq.pause || !(s.psq.settingsOf src).enable then none
  else match src with
    | .urgent => (considered s.psq .urgent).filter fun p => fits s released p.slot
    | .queue => (considered s.psq .queue).filter fun p => fits s released p.slot && (!p.wait || s.psq.trigger)
    | .admission => ((pendingSlots s.psq).find? (fits s released)).map fun i => ⟨i, false, false⟩

/-- Of two presented candidates, the later replaces the earlier only with a greater priority (R38). -/
def better (p : Psq) (best : Option (Source × Place)) (next : Source × Place) : Option (Source × Place) :=
  match best with
  | none => some next
  | some b => if (p.settingsOf b.1).priority < (p.settingsOf next.1).priority then some next else some b

/-- The first, by R38, of the candidates that the given sources present. -/
def winnerAmong (s : State) (released : Nat) (sources : List Source) : Option (Source × Place) :=
  (sources.filterMap fun src => (candidate s released src).map fun p => (src, p)).foldl (better s.psq) none

/-- The winner of a round with the resource FREE (R38). -/
def winner (s : State) : Option (Source × Place) := winnerAmong s 0 sourcesRanked

/-- The sources that may preempt a precharge won from `src`: another source in mode PREEMPT with a greater priority (R39). -/
def mayPreempt (p : Psq) (src : Source) (other : Source) : Bool :=
  other != src && (p.settingsOf other).mode == .preempt && decide ((p.settingsOf src).priority < (p.settingsOf other).priority)

/-- What preempts slot `x`'s precharge from `src` in a round, if anything does (R39). -/
def preemptor (s : State) (x : SlotId) (src : Source) : Option (Source × Place) :=
  winnerAmong s (committedFloor s x) (sourcesRanked.filter (mayPreempt s.psq src))

/-! ### The round -/

/-- The winner leaves its holding; a QUEUE winner clears the trigger flag (R38). -/
def leaveSource (src : Source) (i : SlotId) (p : Psq) : Psq :=
  match src with
  | .urgent => if p.urgentBackup.isSome then { p with urgentBackup := none } else { p with urgentEntry := none }
  | .queue =>
    if p.queueBackup.isSome then { p with queueBackup := none, trigger := false }
    else { p with queue := p.queue.tail, trigger := false }
  | .admission => { p with pendingSet := setBit p.pendingSet i false }

/-- SLC closes the winner's switch and the resource enters PRECHARGING with the precharge time then configured (R7, R26,
R38). -/
def closeSwitch (src : Source) (p : Place) (s : State) : State :=
  let s := enter p.slot .precharge (s.modSlot p.slot fun r => { r with mainSwitch := true, holdingSource := none })
  { s with psq := { s.psq with resource := .precharging p.slot src p.notify s.psq.prechargeTime } }

/-- The winner starts (R38): it leaves its holding, its switch closes, its floor is committed; an overcurrent line found
asserted at that moment is a fault at once (R7). -/
def startWinner (w : Source × Place) (s : State) : State :=
  let i := w.2.slot
  let s := commitFloor i (closeSwitch w.1 w.2 { s with psq := leaveSource w.1 i s.psq })
  doWhen (s.lines.overcurrent.getLsbD i && (s.slot i).state == .precharge) (faultSlot i .overcurrent) s

/-- An arbitration round (R37). -/
def round (s : State) : State :=
  match s.psq.resource with
  | .free =>
    match winner s with
    | some w => startWinner w s
    | none => s
  | .precharging x src notify _ =>
    match preemptor s x src with
    | some w => startWinner w (takeRelease x (abortPrecharge x src notify s))
    | none => s
  | .gap _ => s

/-- No round is due. -/
def clearRound (s : State) : State := { s with psq := { s.psq with roundDue := false } }

/-- The rounds due after an event, each of which may call for the next; every round that calls for another starts a slot, and
none can follow 32 of them (log entry 5). -/
def settleRounds : Nat → State → State
  | 0, s => clearRound s
  | n + 1, s => if s.psq.roundDue then settleRounds n (round (clearRound s)) else s

/-- The rounds an event has called for are run (R37). -/
def settle (s : State) : State := settleRounds 32 s

/-- A command whose work at the blocks is `f`, followed by the rounds it calls for. -/
def finish (f : State → State) (s : State) : Out := .next (settle (f (clearRound s)))

/-- A trigger is delivered to the queue (R34): it sets the flag if the next place waits for one. -/
def deliverTrigger (s : State) : State :=
  match considered s.psq .queue with
  | some p => if p.wait then callRound { s with psq := { s.psq with trigger := true } } else s
  | none => s

end Sys2Proof.Machine
end

