-- ==== Sys2Proof/Machine/Inventory.lean ====
section
/-! DEFINITION. The shared work of INV and of the owners it reports to: the generation counter (R149), the identity read
list (R152 to R155), and what BDU (R48, R50) and LXC (R125, R127) do with a result. -/

namespace Sys2Proof.Machine

/-! ### Records and the generation -/

/-- The generation counter is incremented and INVENTORY raised (R149). -/
def bumpGeneration (s : State) : State :=
  raise .inventory supervisors { s with inv := { s.inv with generation := s.inv.generation + 1#16 } }

/-- A supply's identity field mirrors the state of its inventory record (R47). -/
def mirrorIdentity (n : RecNo) (st : InvState) (s : State) : State :=
  match positionOf n with
  | .supply b => s.modSupply b fun r => { r with identity := st }
  | _ => s

/-- A record takes a state, a read status and an identity part; the generation counts it if the state or the identity part
changed (R149). -/
def writeRecord (n : RecNo) (r : InvRec) (s : State) : State :=
  let old := s.record n
  let s := mirrorIdentity n r.state (s.modRecord n fun _ => r)
  doWhen (old.state != r.state || old.identity != r.identity) bumpGeneration s

/-! ### The supplies (R48, R50) -/

/-- A supply's state and rating are written; a change of either is a supply change, which runs an evaluation (R48). -/
def writeSupply (b : SupplyBay) (st : SupplyState) (rating : Nat) (s : State) : State :=
  if (s.supply b).state = st ∧ (s.supply b).rating = rating then s
  else evaluate (headroom s) (s.modSupply b fun r => { r with state := st, rating := rating })

/-- BDU takes the result of a read of a supply (R48, R50). -/
def supplyResult (b : SupplyBay) (result : InvState) (rating : Nat) (s : State) : State :=
  match (s.supply b).state, result with
  | .absent, _ => s
  | .unidentified, .identified => writeSupply b (if (s.supply b).outputGood then .healthy else .failed) rating s
  | st, .identified => writeSupply b st rating s
  | _, _ => writeSupply b .unidentified 0 s

/-! ### The uplink bays (R125, R126, R127, R139) -/

/-- The fabric code, capacity and reserve of an identity are taken, or 0 for each. -/
def takeFields (b : UplinkBay) (fabric capacity reserve : Nat) (s : State) : State :=
  s.modBay b fun r => { r with fabric := fabric, capacity := capacity, reserve := reserve }

/-- A bay loses its module power and its hold timer and enters `st`; one that was UP gives up its lanes; the event ends with
the rescan its entry calls for (R125, R138). -/
def bayDownTo (b : UplinkBay) (st : BayState) (s : State) : State :=
  let wasUp := (s.bay b).state == .up
  let s := s.modBay b fun r => { r with state := st, power := false, hold := none }
  if wasUp then giveUpLanes b s else rescan s

/-- An identified bay: power on and DOWN, with the hold begun if link-up is asserted, and the rescan; or FAULT while
module-fault is asserted (R125, R126). -/
def bayIdentified (b : UplinkBay) (s : State) : State :=
  if (s.bay b).moduleFault then rescan (s.modBay b fun r => { r with state := .fault })
  else
    let s := s.modBay b fun r => { r with state := .down, power := true, hold := none }
    if (s.bay b).linkUp && s.lxc.linkHold == 0 then enterUp b s
    else rescan (doWhen (s.bay b).linkUp (startHold b) s)

/-- The lanes a capacity shrink releases: BOUND or MOVING to the bay, in descending lane number, until the rest fit (R139). -/
def shrinkExcess (b : UplinkBay) (s : State) : List LaneId :=
  let on := lanesOn s b
  (on.reverse.take ((s.bay b).bound + (s.bay b).movingIn - (s.bay b).capacity)).reverse

/-- A DOWN or UP bay takes the fields of a repeat IDENTIFIED: the fabric change, or the capacity shrink, or the rescan of a
raised capacity (R127, R139). -/
def bayReread (b : UplinkBay) (fabric capacity reserve : Nat) (s : State) : State :=
  let old := s.bay b
  let s := takeFields b fabric capacity reserve s
  if old.fabric ≠ fabric then giveUpLanes b s
  else if capacity < old.capacity then displace (shrinkExcess b s) s
  else doWhen (decide (old.capacity < capacity)) rescan s

/-- A FAULT bay with module-fault asserted takes the fields and stays as it is; the rescan follows a change of fabric code
or capacity (R127, R133). -/
def bayFieldsOnly (b : UplinkBay) (fabric capacity reserve : Nat) (s : State) : State :=
  let old := s.bay b
  doWhen (old.fabric != fabric || old.capacity != capacity) rescan (takeFields b fabric capacity reserve s)

/-- LXC takes an IDENTIFIED result (R125, R127). -/
def bayGoodResult (b : UplinkBay) (fabric capacity reserve : Nat) (s : State) : State :=
  match (s.bay b).state with
  | .absent => s
  | .identifying => bayIdentified b (takeFields b fabric capacity reserve s)
  | .fault =>
    if (s.bay b).moduleFault then bayFieldsOnly b fabric capacity reserve s
    else bayIdentified b (takeFields b fabric capacity reserve s)
  | .down | .up => bayReread b fabric capacity reserve s

/-- LXC takes an UNREADABLE or MISMATCH result (R125, R127). -/
def bayBadResult (b : UplinkBay) (s : State) : State :=
  match (s.bay b).state with
  | .absent => s
  | _ => bayDownTo b .fault (takeFields b 0 0 0 s)

/-! ### The read list (R152 to R154) -/

/-- Whenever no read is in flight and the list is not empty, a read of the head starts (R152). -/
def startRead (s : State) : State :=
  match s.inv.readLeft, s.inv.readList with
  | none, n :: _ =>
    let s := s.modRecord n fun r => { r with read := .inFlight }
    { s with inv := { s.inv with readLeft := some identityReadMs } }
  | _, _ => s

/-- A position joins the list at its tail; a record that was ABSENT becomes READING (R152). -/
def joinReadList (n : RecNo) (s : State) : State :=
  if s.inv.readList.contains n then s
  else
    let old := s.record n
    let st : InvState := if old.state = .absent then .reading else old.state
    let s := writeRecord n ⟨st, .waiting, old.identity⟩ s
    startRead { s with inv := { s.inv with readList := s.inv.readList ++ [n] } }

/-- A unit is removed: a read in flight of it is abandoned, or its place in the list given up, and its record becomes
ABSENT (R154). -/
def removeUnit (n : RecNo) (s : State) : State :=
  let inFlight := s.inv.readLeft.isSome && s.inv.readList.head? == some n
  let s := { s with inv := { s.inv with
    readList := s.inv.readList.filter (· != n)
    readLeft := if inFlight then none else s.inv.readLeft } }
  startRead (writeRecord n coldRecord s)

/-- The result is reported to the owner of the bay (R153). -/
def reportResult (n : RecNo) (result : InvState) (identity : Option Identity) (s : State) : State :=
  match positionOf n, identity with
  | .supply b, some (.supply _ rating) => supplyResult b result rating s
  | .supply b, _ => supplyResult b result 0 s
  | .uplink b, some (.uplink u) => reportUplinkReserve (bayGoodResult b u.fabric u.capacity u.reserve s)
  | .uplink b, _ => reportUplinkReserve (bayBadResult b s)
  | _, _ => s

/-- The read in flight ends with a result, which is a function of the position: the position leaves the list, the record takes
the result, the owner is told, and the next read starts (R152, R153). -/
def endRead (judge : Position → InvState × Option Identity) (s : State) : State :=
  match s.inv.readLeft, s.inv.readList with
  | some _, n :: rest =>
    let r := judge (positionOf n)
    let s := { s with inv := { s.inv with readList := rest, readLeft := none } }
    startRead (reportResult n r.1 r.2 (writeRecord n ⟨r.1, .none, r.2⟩ s))
  | _, _ => s

/-! ### Blade records (R150) -/

/-- INV writes a slot's blade record from an accepted Announce, which the generation always counts, and gives LXC the fabric
codes (R150). -/
def writeBlade (i : SlotId) (b : BladeIdentity) (s : State) : State :=
  setFabrics i b.fabricA b.fabricB
    (bumpGeneration (s.modRecord (bladeRecord i) fun _ => ⟨.identified, .none, some (.blade b)⟩))

/-- INV clears a slot's blade record, and LXC is told that both fabric codes are 0 (R150). -/
def clearBlade (i : SlotId) (s : State) : State :=
  setFabrics i 0 0 (writeRecord (bladeRecord i) coldRecord s)

end Sys2Proof.Machine
end

