-- ==== Sys2Proof/Machine/Cooling.lean ====
section
/-! DEFINITION. The shared work of CLC: fan commands (R103, R104), the end and the abort of a characterisation (R120, R121),
the thermal trip (R111), fan health (R106, R107), the zone computation (R96 to R98), saturation and relief (R110), and fan
insertion and removal (R102). -/

namespace Sys2Proof.Machine

/-! ### Fan commands -/

/-- Whether the search in flight, if any, is of fan `b`. -/
def searched (s : State) (b : FanBay) : Bool := (s.clc.search.map (·.bay)) == some b

/-- The command of a fan: the first case of R103 that applies. -/
def fanCommand (s : State) (b : FanBay) : Nat :=
  let r := s.fan b
  let z := s.zone (zoneOfFan b)
  let boosted := max (max z.duty z.limits.failoverDuty) r.stallFloor
  if r.state = .absent then 0
  else if s.clc.trip then 255
  else if r.state = .characterising then (s.clc.search.map (·.trial)).getD r.command
  else if (s.fan (partner b)).state = .characterising then boosted
  else if r.state = .failed ∨ (s.fan (partner b)).state = .failed then boosted
  else max z.duty r.stallFloor

/-- The command of one fan is recomputed and applied to its drive output (R104). -/
def recompute (s : State) (b : FanBay) : State := s.modFan b fun r => { r with command := fanCommand s b }

/-- The commands of both fans of a zone are recomputed (R104). -/
def recomputeZone (z : ZoneId) (s : State) : State := (fansOfZone z).foldl recompute s

/-- The commands of every fan are recomputed (R104). -/
def recomputeAll (s : State) : State := (indexes 8).foldl recompute s

/-- FAN_FAULT (R106, R107, R108, R120). -/
def raiseFanFault (s : State) : State := raise .fanFault supervisors s

/-! ### The end of a characterisation without a result of its own (R121) -/

/-- The search in flight, if any, is aborted: its fan returns to its prior state with result ABORTED, the record becomes
idle, and CHARACTERISE_DONE is raised. The commands are the caller's. -/
def abortSearch (s : State) : State :=
  match s.clc.search with
  | none => s
  | some c =>
    let s := s.modFan c.bay fun r => { r with state := r.prior.getD .running, result := .aborted, prior := none }
    raise .characteriseDone supervisors { s with clc := { s.clc with search := none } }

/-- The search is aborted if it is of fan `b` or of its partner, and their commands recomputed. -/
def abortSearchAt (b : FanBay) (s : State) : State :=
  if searched s b || searched s (partner b) then recomputeZone (zoneOfFan b) (abortSearch s) else s

/-! ### The thermal trip (R111) -/

/-- The latch is set: every search is aborted, every k and count falls to 0, the factors are reported, every fan is commanded
255 and THERMAL_TRIP raised to every port. A latch already set changes nothing. -/
def latchTrip (s : State) : State :=
  if s.clc.trip then s
  else
    let s := abortSearch s
    let s := { s with clc := { s.clc with
      trip := true
      zones := tabulate fun z => { s.clc.zones.get z with k := 0, saturation := 0, relief := 0 }
      reports := s.clc.reports + 1 } }
    raise .thermalTrip everyPort (recomputeAll s)

/-- The value of a reading while it is FRESH. -/
def freshValue (r : Reading) : Option Int := if r.state = .fresh then r.value else none

/-- Whether a delivery holds a FRESH exhaust value at or above its zone's critical temperature (R111). -/
def tripCalled (s : State) (d : Vector Reading 6) : Bool :=
  (indexes 4).any fun z => (freshValue (d.get (exhaustIndex z))).any fun v => decide ((s.zone z).limits.critical ≤ v)

/-! ### Fan health (R106, R107) -/

/-- The rpm a fan should turn at under a command (section 6.7). -/
def expectedRpm (type : Fin 4) (command : Nat) : Nat := fanMaxRpm type * command / 255

/-- The three kinds of a judged fan's step (R106). -/
def failStep (r : FanRec) : Bool := decide (r.rpm < fanMinRpm r.type)
/-- A slow step, of a fan that is at or above its min rpm (R106). -/
def slowStep (r : FanRec) (command : Nat) : Bool := decide (r.rpm * 4 < expectedRpm r.type command * 3)

/-- A fan enters FAILED: counts cleared, FAN_FAULT, a search of its partner aborted, both commands recomputed (R104, R106,
R121). -/
def failFan (b : FanBay) (s : State) : State :=
  let s := raiseFanFault (s.modFan b fun r => { r with state := .failed, slowCount := 0, failCount := 0 })
  recomputeZone (zoneOfFan b) (doWhen (searched s (partner b)) abortSearch s)

/-- A count of three steps away from the present state is complete: the fan changes to `st` with FAN_FAULT (R107). -/
def turnFan (b : FanBay) (st : FanState) (s : State) : State :=
  raiseFanFault (s.modFan b fun r => { r with state := st, slowCount := 0 })

/-- One judged fan's step, against the command standing before the control step (R106, R107). -/
def judgeFan (b : FanBay) (command : Nat) (s : State) : State :=
  let r := s.fan b
  if failStep r then
    if 3 ≤ r.failCount + 1 then failFan b s else s.modFan b fun r => { r with failCount := r.failCount + 1 }
  else
    let away := if r.state = .running then slowStep r command else !slowStep r command
    let s := s.modFan b fun r => { r with failCount := 0 }
    if away then
      if 3 ≤ r.slowCount + 1 then turnFan b (if r.state = .running then .slow else .running) s
      else s.modFan b fun r => { r with slowCount := r.slowCount + 1 }
    else s.modFan b fun r => { r with slowCount := 0 }

/-- Stage 2 of the control step: every fan RUNNING or SLOW as the stage begins is judged, against the commands of `before`,
the state before the step (R109; log entry 9). -/
def judgeFans (before s : State) : State :=
  ((indexes 8).filter fun b => (s.fan b).state == .running || (s.fan b).state == .slow).foldl
    (fun s b => judgeFan b (before.fan b).command s) s

/-! ### The zone computation (R96 to R98) -/

/-- The value of a segment of the curve at `t` (R96). -/
def segmentAt (p q : CurvePoint) (t : Int) : Nat := p.d + (q.d - p.d) * (t - p.t).toNat / (q.t - p.t).toNat

/-- The curve evaluated at `t` (R96). -/
def curveAt (c : Vector CurvePoint 4) (t : Int) : Nat :=
  if t ≤ (c.get 0).t then (c.get 0).d
  else if t < (c.get 1).t then segmentAt (c.get 0) (c.get 1) t
  else if t < (c.get 2).t then segmentAt (c.get 1) (c.get 2) t
  else if t < (c.get 3).t then segmentAt (c.get 2) (c.get 3) t
  else (c.get 3).d

/-- The curve demand of a zone from its delivered exhaust reading (R96). -/
def curveDemand (z : ZoneRec) (r : Reading) : Nat :=
  match r.state, r.value with
  | .fresh, some t => curveAt z.curve t
  | .stale, _ => z.limits.staleDuty
  | _, _ => 0

/-- The greatest cooling demand among the ON and STOPPING slots of a zone (R97). -/
def bladeDemand (s : State) (z : ZoneId) : Nat :=
  (((indexes 14).filter fun i => (s.slot i).state.running && (s.slot i).zone == z).map fun i => (s.slot i).c).foldl max 0

/-- Whether the inlet boost applies: a FRESH inlet value at or above the zone's inlet limit (R97). -/
def inletBoosted (z : ZoneRec) (d : Vector Reading 6) : Bool :=
  [d.get 0, d.get 1].any fun r => (freshValue r).any fun v => decide (z.limits.inletLimit ≤ v)

/-- The zone duty follows the raw demand within the slew limits (R98). -/
def slewed (z : ZoneRec) (raw : Nat) : Nat :=
  if z.duty < raw then min raw (z.duty + z.limits.riseLimit)
  else if raw < z.duty then max raw (z.duty - z.limits.fallLimit)
  else z.duty

/-- One zone's record after stage 3 of the control step (R96, R97, R98). -/
def computeZone (s : State) (d : Vector Reading 6) (z : ZoneId) : ZoneRec :=
  let r := s.clc.zones.get z
  let curve := curveDemand r (d.get (exhaustIndex z))
  let blade := bladeDemand s z
  let boost := inletBoosted r d
  let base := max (max curve r.limits.floorDuty) blade
  let raw := min 255 (base + if boost then r.limits.inletBoost else 0)
  { r with curveDemand := curve, bladeDemand := blade, boosted := boost, rawDemand := raw, duty := slewed r raw }

/-- Stage 3 of the control step (R109). -/
def computeZones (d : Vector Reading 6) (s : State) : State :=
  { s with clc := { s.clc with zones := tabulate (computeZone s d) } }

/-! ### Saturation and relief (R110) -/

/-- Whether a zone is saturated: it asks for 255 and every RUNNING fan of it is commanded 255 and turns below max rpm. -/
def saturated (s : State) (z : ZoneId) : Bool :=
  (s.zone z).rawDemand == 255 && ((fansOfZone z).filter fun b => (s.fan b).state == .running).all fun b =>
    (s.fan b).command == 255 && decide ((s.fan b).rpm < fanMaxRpm (s.fan b).type)

/-- One zone's counts and thermal factor after stage 4 of the control step (R110). -/
def stepSaturation (s : State) (z : ZoneId) : ZoneRec :=
  let r := s.clc.zones.get z
  if s.clc.trip then { r with saturation := 0, relief := 0, k := 0 }
  else if saturated s z then
    if r.limits.saturationSteps ≤ r.saturation + 1 then { r with saturation := 0, relief := 0, k := r.k - 10 }
    else { r with saturation := r.saturation + 1, relief := 0 }
  else
    if r.limits.reliefSteps ≤ r.relief + 1 then { r with saturation := 0, relief := 0, k := min 100 (r.k + 10) }
    else { r with saturation := 0, relief := r.relief + 1 }

/-- Stages 4 and 6 of the control step, but for the commands of stage 5 between them: the counts and factors are stepped, and
a report to BDU is made if any k changed (R109, R110). -/
def stepFactors (s : State) : State :=
  let changed := (indexes 4).any fun z => (stepSaturation s z).k != (s.zone z).k
  { s with clc := { s.clc with
      zones := tabulate (stepSaturation s)
      reports := if changed then s.clc.reports + 1 else s.clc.reports } }

/-- The whole control step on one delivery (R109). -/
def controlStepOn (d : Vector Reading 6) (s : State) : State :=
  let tripped := doWhen (tripCalled s d) latchTrip s
  recomputeAll (stepFactors (computeZones d (judgeFans s tripped)))

/-! ### Insertion and removal (R102) -/

/-- The record of a fan just inserted; its command is the caller's (R102). -/
def insertedFan (type : Fin 4) (r : FanRec) : FanRec :=
  { r with
    type := type, state := .running, stallFloor := fanStallFloor type, result := .none, prior := none
    slowCount := 0, failCount := 0, lastPeriod := none, rpm := 0 }

/-- The record of a fan just removed; its characterisation result is kept (R102). -/
def removedFan (r : FanRec) : FanRec :=
  { r with
    type := 0, state := .absent, command := 0, stallFloor := 0, prior := none
    slowCount := 0, failCount := 0, lastPeriod := none, rpm := 0 }

/-- The tach measurement of a fan starts afresh: its previous capture becomes invalid (R105). -/
def dropCapture (b : FanBay) (s : State) : State :=
  { s with clc := { s.clc with captures := put s.clc.captures b none } }

/-- The removal of a fan: a search of it or of its partner is aborted first (R102, R121). -/
def removeFan (b : FanBay) (s : State) : State :=
  recomputeZone (zoneOfFan b) (dropCapture b ((abortSearchAt b s).modFan b removedFan))

/-- The insertion of a fan (R102). -/
def insertFan (b : FanBay) (type : Fin 4) (s : State) : State :=
  recomputeZone (zoneOfFan b) (dropCapture b (s.modFan b (insertedFan type)))

/-- CLC takes INV's report of a strap's old and new type, and reports the fan reserve (R102). -/
def takeFanType (b : FanBay) (old new : Fin 4) (s : State) : State :=
  let s := doWhen (old != 0) (removeFan b) s
  reportFanReserve (doWhen (new != 0) (insertFan b new) s)

/-- The type INV's fan record holds; 0 while it is ABSENT (R151). -/
def heldType (s : State) (b : FanBay) : Fin 4 :=
  match (s.record (fanRecord b)).identity with
  | some (.fan t) => t
  | _ => 0

/-- INV takes a strap's value: a change of it writes the fan record and is reported to CLC (R151). -/
def takeStrap (b : FanBay) (new : Fin 4) (s : State) : State :=
  let old := heldType s b
  if old = new then s
  else
    let r : InvRec := if new = 0 then coldRecord else ⟨.identified, .none, some (.fan new)⟩
    takeFanType b old new (writeRecord (fanRecord b) r s)

end Sys2Proof.Machine
end

