-- ==== Sys2Proof/Machine/Scan.lean ====
section
/-! DEFINITION. The shared work of SSC: starting a scan (R88), judging a read (R89), completion and its deliveries (R91),
and dropped causes (R87). -/

namespace Sys2Proof.Machine

/-- The channels of the enable set in ascending order (R88). -/
def enabledChannels (s : State) : List Channel := (indexes 20).filter fun c => s.ssc.enable.getLsbD c

/-- The copy of T0–T5 delivered to CLC (R91). -/
def clcCopy (r : Vector Reading 20) : Vector Reading 6 := tabulate fun n => r.get ⟨n.val, by omega⟩

/-- The copy of P0–P13 delivered to SLC (R91). -/
def slcCopy (r : Vector Reading 20) : Vector Reading 14 := tabulate fun n => r.get (powerChannel n)

/-- The scan completes: the count is incremented, the scanner is IDLE, and the readings are delivered to CLC and SLC (R91). -/
def completeScan (s : State) : State :=
  { s with ssc := { s.ssc with
      scan := none
      completed := s.ssc.completed + 1#16
      toClc := s.ssc.toClc ++ [clcCopy s.ssc.readings]
      toSlc := s.ssc.toSlc ++ [slcCopy s.ssc.readings] } }

/-- A scan starts in an IDLE scanner; one with an empty list completes at once (R88). -/
def startScan (cause : ScanCause) (s : State) : State :=
  match enabledChannels s with
  | [] => completeScan s
  | list => { s with ssc := { s.ssc with scan := some ⟨cause, list, list, channelMs⟩ } }

/-- A start cause at the scanner: it starts a scan in IDLE; in SCANNING it is dropped and sets the overrun flag (R84, R85,
R87). -/
def startCause (cause : ScanCause) (s : State) : State :=
  match s.ssc.scan with
  | none => startScan cause s
  | some _ => { s with ssc := { s.ssc with overrun := true } }

/-- The value a channel's read yields, brought to its bounds; none where the read fails (R82, R89). An answer of the other
kind of sensor is a malformed value. -/
def readValue (c : Channel) : SensorAnswer → Option Int
  | .failed => none
  | .celsius t => if c.val < 6 then some (clampInt (-40) 150 t) else none
  | .watts p => if c.val < 6 then none else some (min p 4095 : Nat)

/-- The reading after a read ends (R89). -/
def nextReading (r : Reading) (v : Option Int) : Reading :=
  match r.state, v with
  | .disabled, _ => r
  | _, some x => ⟨.fresh, some x, 0⟩
  | .stale, none => { r with failures := 3 }
  | st, none => { r with failures := r.failures + 1, state := if 3 ≤ r.failures + 1 then .stale else st }

/-- Whether a change of a reading raises SENSOR_STALE: becoming STALE, or FRESH from STALE (R89). -/
def staleNotice (old new : Reading) : Bool :=
  (new.state == .stale && old.state != .stale) || (old.state == .stale && new.state == .fresh)

/-- A channel's reading is updated with the outcome of its read (R89). -/
def takeReading (c : Channel) (v : Option Int) (s : State) : State :=
  let old := s.reading c
  let new := nextReading old v
  doWhen (staleNotice old new) (raise .sensorStale supervisors)
    { s with ssc := { s.ssc with readings := put s.ssc.readings c new } }

end Sys2Proof.Machine
end

