-- ==== Sys2Proof/Machine/Slots.lean ====
section
/-! DEFINITION. The events of SLC: presence, debounce and announce timers, extraction, latch, faults, stop deadline, reset
pulse and throttling (R3, R4, R6, R9, R13, R16, R17, R18). -/

namespace Sys2Proof.Machine

/-- The presence line of a slot is found asserted: an EMPTY slot enters DETECTING with a full debounce (R3, R24). -/
def takePresence (i : SlotId) (s : State) : State :=
  let s := s.modSlot i fun r => { r with presence := true }
  if (s.slot i).state = .empty then
    enter i .detecting (s.modSlot i fun r => { r with debounce := some debounceMs })
  else s

/-- PRESENCE_ASSERTED (R3). -/
def execPresenceAsserted (i : SlotId) (s : State) : Out :=
  .next (takePresence i (s.setLines fun l => { l with presence := setBit l.presence i true }))

/-- DEBOUNCE_EXPIRY (R3); no event while no debounce runs. -/
def execDebounceExpiry (i : SlotId) (s : State) : Out :=
  .next <|
    if (s.slot i).state = .detecting ∧ (s.slot i).debounce.isSome ∧ (s.slot i).presence then
      enter i .seated (s.modSlot i fun r => { r with debounce := none, announceTimer := some announceMs })
    else s

/-- ANNOUNCE_TIMER_EXPIRY (R4); no event while no announce timer runs. -/
def execAnnounceTimerExpiry (i : SlotId) (s : State) : Out :=
  .next <|
    if (s.slot i).state = .seated ∧ (s.slot i).announceTimer.isSome then
      enter i .mute (s.modSlot i fun r => { r with announceTimer := none })
    else s

/-- The common steps of an extraction on the slot record (R16). -/
def extracted (r : SlotRec) : SlotRec :=
  { r with
    presence := false, restore := false, violations := 0, stopReason := none, deadline := none
    holdingSource := none, faultCause := none, m := 0, c := 0, debounce := none, announceTimer := none }

/-- A surprise extraction (R16): what the slot holds in every block is undone, and the slot is left EMPTY. -/
def extract (i : SlotId) (s : State) : State :=
  match (s.slot i).state with
  | .empty => s.modSlot i fun r => { r with presence := false }
  | .precharge | .on | .stopping => clearBlade i (removePower i .empty extracted false s)
  | .queued => clearBlade i (callRound (enter i .empty ({ s with psq := dropHolding i s.psq }.modSlot i extracted)))
  | _ => clearBlade i (enter i .empty (s.modSlot i extracted))

/-- SURPRISE_EXTRACTION (R16). -/
def execSurpriseExtraction (i : SlotId) (s : State) : Out :=
  finish (fun s => extract i (s.setLines fun l => { l with presence := setBit l.presence i false })) s

/-- What an opening latch does to its slot (R6). -/
def openLatch (i : SlotId) (s : State) : State :=
  let s := s.modSlot i fun r => { r with latchOpen := true }
  match (s.slot i).state with
  | .on => startStop i .eject ((s.slot i).shutdownTimeout * 1000) s
  | .stopping => s.modSlot i fun r => { r with restore := false }
  | .queued => removeHolding i s
  | .precharge => actOnRestore i (removePower i .standby id false s)
  | _ => s

/-- LATCH_OPENS (R6). -/
def execLatchOpens (i : SlotId) (s : State) : Out :=
  finish (fun s => openLatch i (s.setLines fun l => { l with latchOpen := setBit l.latchOpen i true })) s

/-- What a closing latch does to its slot (R6). -/
def closeLatch (i : SlotId) (s : State) : State :=
  let s := s.modSlot i fun r => { r with latchOpen := false }
  doWhen ((s.slot i).state == .standby && (s.slot i).autoPowerOn) (admissionAdd i) s

/-- LATCH_CLOSES (R6). -/
def execLatchCloses (i : SlotId) (s : State) : Out :=
  finish (fun s => closeLatch i (s.setLines fun l => { l with latchOpen := setBit l.latchOpen i false })) s

/-- OVERCURRENT_ASSERTED (R9). -/
def execOvercurrentAsserted (i : SlotId) (s : State) : Out :=
  finish (fun s =>
    doWhen (s.slot i).state.powered (faultSlot i .overcurrent)
      (s.setLines fun l => { l with overcurrent := setBit l.overcurrent i true })) s

/-- OVERCURRENT_DEASSERTED: the level alone is taken (R7, R9). -/
def execOvercurrentDeasserted (i : SlotId) (s : State) : Out :=
  .next (s.setLines fun l => { l with overcurrent := setBit l.overcurrent i false })

/-- POWER_GOOD_LOST (R9): a change during PRECHARGE is not acted on. -/
def execPowerGoodLost (i : SlotId) (s : State) : Out :=
  finish (fun s =>
    doWhen (s.slot i).state.running (faultSlot i .powerGoodLost)
      (s.setLines fun l => { l with powerGood := setBit l.powerGood i false })) s

/-- POWER_GOOD_ASSERTED: the level alone is taken (R9). -/
def execPowerGoodAsserted (i : SlotId) (s : State) : Out :=
  .next (s.setLines fun l => { l with powerGood := setBit l.powerGood i true })

/-- STOP_DEADLINE_EXPIRY (R13); no event while the slot has no stop deadline. -/
def execStopDeadlineExpiry (i : SlotId) (s : State) : Out :=
  finish (fun s =>
    if (s.slot i).state = .stopping ∧ (s.slot i).deadline.isSome then
      actOnRestore i (removePower i .standby (fun r => { r with lastStopForced := true }) false s)
    else s) s

/-- RESET_DELAY_EXPIRY (R17); no event while the pulse is not DELAYING. -/
def execResetDelayExpiry (i : SlotId) (s : State) : Out :=
  .next <|
    match (s.slot i).pulse with
    | .delaying _ width => s.modSlot i fun r => { r with pulse := .asserting width, resetLine := true }
    | _ => s

/-- RESET_WIDTH_EXPIRY (R17); no event while the pulse is not ASSERTING. -/
def execResetWidthExpiry (i : SlotId) (s : State) : Out :=
  .next <|
    match (s.slot i).pulse with
    | .asserting _ => s.modSlot i fun r => { r with pulse := .idle, resetLine := false }
    | _ => s

/-- One slot's record after its delivered power reading is judged (R18). A channel outside the enable set reads DISABLED and
never FRESH (R82, R90), so the delivered copy says whether the channel was enabled. -/
def judgePower (reading : Reading) (r : SlotRec) : SlotRec :=
  match r.state, freshValue reading with
  | .on, some v =>
    if (r.cap + r.cap / 16 : Nat) < v then
      { r with violations := min 3 (r.violations + 1), throttle := r.throttle || decide (3 ≤ r.violations + 1) }
    else if v ≤ (r.cap : Int) then { r with violations := 0, throttle := false }
    else r
  | _, _ => r

/-- SLC_SCAN_DELIVERY: SLC takes the oldest delivery not yet taken and acts on that copy (R18, R91); no event while there is
none. R18 does not say at which moment a channel must be enabled: the model takes the moment of the completion, which the copy
shows, so an edit of the enable set made after it changes nothing of this examination (log entry 20). -/
def execSlcScanDelivery (s : State) : Out :=
  .next <|
    match s.ssc.toSlc with
    | [] => s
    | d :: rest =>
      { s with
        slots := tabulate fun i => judgePower (d.get i) (s.slots.get i)
        ssc := { s.ssc with toSlc := rest } }

/-! ### The sequencer's timers and the sync line -/

/-- A precharge is judged at its expiry by the power-good line (R9, R26). -/
def endOfPrecharge (i : SlotId) (notify : Bool) (s : State) : State :=
  if s.lines.powerGood.getLsbD i then
    let s := lanesIn i (reevaluate (enter i .on (endPrecharge false s)))
    doWhen (notify && (s.slot i).state == .on) (raise .sequenceStep supervisors) s
  else faultSlot i .noPowerGood s

/-- PRECHARGE_EXPIRY (R26); no event while no precharge runs. -/
def execPrechargeExpiry (s : State) : Out :=
  finish (fun s =>
    match s.psq.resource with
    | .precharging i _ notify _ => endOfPrecharge i notify s
    | _ => s) s

/-- INRUSH_GAP_EXPIRY (R27); no event while no gap runs. -/
def execInrushGapExpiry (s : State) : Out :=
  finish (fun s =>
    match s.psq.resource with
    | .gap _ => callRound { s with psq := { s.psq with resource := .free } }
    | _ => s) s

/-- SYNC_FALLING_EDGE: SSC and PSQ take the edge independently (R35, R85). -/
def execSyncFallingEdge (s : State) : Out :=
  finish (fun s =>
    let s := doWhen (s.ssc.source == .sync) (startCause .sync) s
    doWhen s.psq.triggerOnSync deliverTrigger s) s

end Sys2Proof.Machine
end

