-- ==== Sys2Proof/Machine/Service.lean ====
section
/-! DEFINITION. The service of a request (R167): the block acts and answers, the engine is free again, and the response joins
what its port has formed. -/

namespace Sys2Proof.Machine

/-- A reply with an empty payload (R161). -/
def reply (o : OutcomeCode) : Reply := ⟨o, .empty⟩

/-- DONE with a payload. -/
def doneWith (p : Payload) : Reply := ⟨.done, p⟩

/-- CLAMPED with the applied values, or DONE where nothing was brought into range. -/
def doneOrClampedWith (same : Bool) (p : Payload) : Reply := if same then reply .done else ⟨.clamped, p⟩

/-- The port whose request of this kind the engine is serving, where the held payload is one that spells the command's
contents (log entry 2); none where the engine serves no such request, and the command is then no event. -/
def servedPort (s : State) (kind : Byte) (spells : Port → List Byte → Bool) : Option Port :=
  match s.lnk.engine with
  | .serving p =>
    match (s.port p).held with
    | some r => if r.kind == kind && spells p r.payload then some p else none
    | none => none
  | _ => none

/-- The response to a port's held request is formed (R161); the request is then held no longer (R158). -/
def formResponse (p : Port) (kind : Byte) (r : Reply) (s : State) : State :=
  s.modPort p fun x => { x with held := none, tx := x.tx ++ [.response ⟨kind, r.outcome, r.payload⟩] }

/-- The service has ended: the response is formed and the engine is free (R167). -/
def answer (p : Port) (kind : Byte) (r : Reply) (s : State) : State :=
  let s := formResponse p kind r s
  { s with lnk := { s.lnk with engine := .free } }

/-- The service of one request: `f` is the owning block's work and reply; the rounds it calls for follow (R37, R167). -/
def serve (kind : Byte) (spells : Port → List Byte → Bool) (f : Port → State → State × Reply) (s : State) : Out :=
  match servedPort s kind spells with
  | some p =>
    let r := f p (clearRound s)
    .next (settle (answer p kind r.2 r.1))
  | none => .next s

/-- A request that only reads: the state is left as it is (R167). -/
def serveRead (kind : Byte) (spells : Port → List Byte → Bool) (f : Port → State → Reply) (s : State) : Out :=
  serve kind spells (fun p s => (s, f p s)) s

/-- A payload the manual does not lay out, or that carries nothing the command does not name: any held payload will do. -/
def anyPayload : Port → List Byte → Bool := fun _ _ => true

/-- A payload of just these bytes. -/
def exactly (bytes : List Byte) : Port → List Byte → Bool := fun _ held => held == bytes

/-- A payload of a given length, the rest of whose layout the manual does not give. -/
def ofLength (n : Nat) : Port → List Byte → Bool := fun _ held => held.length == n

/-- The work of a request that names one of `n` things, refused with RANGE where it names none (R1). -/
def naming (n : Nat) (b : Byte) (f : Fin n → State → State × Reply) (s : State) : State × Reply :=
  match nameOf n b with
  | some i => f i s
  | none => (s, reply .range)

/-- The work of an OWN request on the port's own slot (R166 has refused any other). -/
def onOwnSlot (p : Port) (f : SlotId → State → State × Reply) (s : State) : State × Reply :=
  match portSlot p with
  | some i => f i s
  | none => (s, reply .notOwner)

end Sys2Proof.Machine
end

