-- ==== Sys2Proof/Machine/Fans.lean ====
section
/-! DEFINITION. The events and services of CLC: zone settings (R99, R100), the control step (R109), the trip input and its
clear (R111, R112), the straps (R151), the tachometers (R105), fan faults (R108), reads (R113) and characterisation (R117 to
R122). -/

namespace Sys2Proof.Machine

/-! ### Zone settings -/

/-- Whether a curve is refused: a value out of range, t not strictly increasing, or d falling (R99). -/
def curveWrong (p : Vector PointArg 4) : Bool :=
  let l := p.toList
  l.any (fun q => decide (q.t < -40 ∨ 150 < q.t ∨ 255 < q.d))
    || !((l.zip l.tail).all fun q => decide (q.1.t < q.2.t ∧ q.1.d ≤ q.2.d))

/-- R99: a curve is never clamped. -/
def setCurve (points : Vector PointArg 4) (z : ZoneId) (s : State) : State × Reply :=
  if curveWrong points then (s, reply .range)
  else (s.modZone z fun r => { r with curve := points.map fun p => ⟨p.t, p.d⟩ }, reply .done)

/-- SET_ZONE_CURVE (R99). -/
def execSetZoneCurve (zone : Byte) (points : Vector PointArg 4) (s : State) : Out :=
  serve 81 anyPayload (fun _ s => naming 4 zone (setCurve points) s) s

/-- The limits with each value brought to its nearest bound (R100, section 6.3). -/
def clampedLimits (a : ZoneLimitArgs) : ZoneLimits where
  floorDuty := clamp 0 255 a.floorDuty
  riseLimit := clamp 1 255 a.riseLimit
  fallLimit := clamp 1 255 a.fallLimit
  failoverDuty := clamp 0 255 a.failoverDuty
  staleDuty := clamp 0 255 a.staleDuty
  inletLimit := clampInt (-40) 150 a.inletLimit
  inletBoost := clamp 0 255 a.inletBoost
  saturationSteps := clamp 1 255 a.saturationSteps
  reliefSteps := clamp 1 255 a.reliefSteps
  critical := clampInt 60 120 a.critical

/-- The limits as given. -/
def givenLimits (a : ZoneLimitArgs) : ZoneLimits :=
  ⟨a.floorDuty, a.riseLimit, a.fallLimit, a.failoverDuty, a.staleDuty, a.inletLimit, a.inletBoost, a.saturationSteps,
   a.reliefSteps, a.critical⟩

/-- R100. -/
def setLimits (a : ZoneLimitArgs) (z : ZoneId) (s : State) : State × Reply :=
  (s.modZone z fun r => { r with limits := clampedLimits a },
   doneOrClampedWith (clampedLimits a == givenLimits a) (.zoneLimits (clampedLimits a)))

/-- SET_ZONE_LIMITS (R100). -/
def execSetZoneLimits (zone : Byte) (limits : ZoneLimitArgs) (s : State) : Out :=
  serve 82 anyPayload (fun _ s => naming 4 zone (setLimits limits) s) s

/-! ### The control step and the trip -/

/-- CONTROL_STEP: CLC takes the oldest delivery not yet taken (R91, R109); no event while there is none. -/
def execControlStep (s : State) : Out :=
  .next <|
    match s.ssc.toClc with
    | [] => s
    | d :: rest => controlStepOn d { s with ssc := { s.ssc with toClc := rest } }

/-- THERMAL_TRIP_INPUT_ASSERTED (R111). -/
def execThermalTripInputAsserted (s : State) : Out :=
  .next (latchTrip (s.setLines fun l => { l with tripInput := true }))

/-- THERMAL_TRIP_INPUT_DEASSERTED: the level alone is taken (R112). -/
def execThermalTripInputDeasserted (s : State) : Out := .next (s.setLines fun l => { l with tripInput := false })

/-- Whether the clear is allowed: the trip input deasserted, and every FRESH exhaust reading of the reading table below its
zone's critical temperature less 5 °C (R112). -/
def clearAllowed (s : State) : Bool :=
  !s.lines.tripInput && (indexes 4).all fun z =>
    (freshValue (s.reading (exhaustChannel z))).all fun v => decide (v < (s.zone z).limits.critical - 5)

/-- R112. -/
def clearTrip (s : State) : State × Reply :=
  if !s.clc.trip then (s, reply .done)
  else if clearAllowed s then
    (raise .thermalTrip everyPort (recomputeAll { s with clc := { s.clc with trip := false } }), reply .done)
  else (s, reply .state)

/-- CLEAR_THERMAL_TRIP (R112). -/
def execClearThermalTrip (s : State) : Out := serve 86 anyPayload (fun _ s => clearTrip s) s

/-! ### Straps and tachometers -/

/-- A strap's value as two line bits, bay b at bits 2b+1 and 2b. -/
def setStrap (straps : BitVec 16) (b : FanBay) (v : Fin 4) : BitVec 16 :=
  setBit (setBit straps (2 * b.val) (v.val % 2 == 1)) (2 * b.val + 1) (decide (2 ≤ v.val))

/-- The value of a bay's strap. -/
def strapOf (straps : BitVec 16) (b : FanBay) : Fin 4 :=
  ⟨(straps.getLsbD (2 * b.val)).toNat + 2 * (straps.getLsbD (2 * b.val + 1)).toNat, by
    have := Bool.toNat_lt (straps.getLsbD (2 * b.val)); have := Bool.toNat_lt (straps.getLsbD (2 * b.val + 1)); omega⟩

/-- FAN_STRAP_CHANGE (R151, R102). -/
def execFanStrapChange (b : FanBay) (strap : Fin 4) (s : State) : Out :=
  finish (fun s => takeStrap b strap (s.setLines fun l => { l with straps := setStrap l.straps b strap })) s

/-- The period of two captures: their difference modulo 65536; for a difference of 0, for which R105 states none, a free
value from 1 to 65535 (log entry 3). -/
def tachPeriod (count : Nat) (before now : BitVec 16) : Nat :=
  if now = before then 1 + Config.freeTachPeriod count % 65535 else (now - before).toNat

/-- The rpm of a period (R105). -/
def rpmOf (type : Fin 4) (period : Nat) : Nat := 60000000 / (period * fanPulses type)

/-- An edge of a present fan that captures `now` (R105). -/
def takeEdge (b : FanBay) (now : BitVec 16) (s : State) : State :=
  let store := fun (s : State) => { s with clc := { s.clc with captures := put s.clc.captures b (some now) } }
  match s.clc.captures.get b with
  | none => store s
  | some before =>
    let p := tachPeriod s.freeCount before now
    let s := s.modFan b fun r => { r with lastPeriod := some p, rpm := rpmOf r.type p }
    store { s with freeCount := if now = before then s.freeCount + 1 else s.freeCount }

/-- TACH_EDGE: a falling edge at which the free counter stands at `counter` (R105); an ABSENT bay's edges are not taken. -/
def execTachEdge (b : FanBay) (counter : BitVec 16) (s : State) : Out :=
  let s := { s with clc := { s.clc with tachCounter := counter } }
  .next (doWhen ((s.fan b).state != .absent) (takeEdge b counter) s)

/-- TACH_OVERFLOW: 65,536 µs have passed since the fan's last edge (R105). -/
def execTachOverflow (b : FanBay) (s : State) : Out :=
  .next (doWhen ((s.fan b).state != .absent)
    (fun s => dropCapture b (s.modFan b fun r => { r with lastPeriod := none, rpm := 0 })) s)

/-! ### Clear Fan Fault, Read Zone, Read Fan -/

/-- R108. -/
def clearFanFaultAt (b : FanBay) (s : State) : State × Reply :=
  match (s.fan b).state with
  | .failed =>
    (recomputeZone (zoneOfFan b) (raiseFanFault (s.modFan b fun r =>
      { r with state := .running, slowCount := 0, failCount := 0 })), reply .done)
  | _ => (s, reply .state)

/-- CLEAR_FAN_FAULT (R108). -/
def execClearFanFault (bay : Byte) (s : State) : Out :=
  serve 85 (exactly [bay]) (fun _ s => naming 8 bay clearFanFaultAt s) s

/-- READ_ZONE (R113). -/
def execReadZone (zone : Byte) (s : State) : Out :=
  serve 36 (exactly [zone]) (fun _ s => naming 4 zone (fun z s => (s, doneWith (.zone (s.zone z) s.clc.trip))) s) s

/-- What Read Fan returns (R113, R116). -/
def fanReport (s : State) (b : FanBay) : FanReport where
  fan := s.fan b
  expectedRpm := expectedRpm (s.fan b).type (s.fan b).command
  search := if (s.fan b).state = .characterising then s.clc.search else none

/-- READ_FAN (R113). -/
def execReadFan (bay : Byte) (s : State) : Out :=
  serve 37 (exactly [bay]) (fun _ s => naming 8 bay (fun b s => (s, doneWith (.fan (fanReport s b)))) s) s

/-! ### Characterisation (chapter 7) -/

/-- The record of a search just started: bit 7, r = 0, trial duty 128 (R117). -/
def newSearch (b : FanBay) (type : Fin 4) : CharRec := ⟨b, fanMinRpm type, 7, 0, 128, settleMs⟩

/-- The start of a search, with the commands of both fans recomputed (R117). -/
def startSearch (b : FanBay) (s : State) : State :=
  let search := newSearch b (s.fan b).type
  let s := s.modFan b fun r => { r with state := .characterising, prior := some r.state }
  recomputeZone (zoneOfFan b) { s with clc := { s.clc with search := some search } }

/-- R117, in its order of checks. -/
def characteriseAt (b : FanBay) (s : State) : State × Reply :=
  if s.clc.search.isSome then (s, reply .busy)
  else if (s.fan b).state = .absent || s.clc.trip || (s.fan (partner b)).state = .absent
      || (s.fan (partner b)).state = .failed then (s, reply .state)
  else (startSearch b s, reply .accepted)

/-- CHARACTERISE_FAN (R117). -/
def execCharacteriseFan (bay : Byte) (s : State) : Out :=
  serve 83 (exactly [bay]) (fun _ s => naming 8 bay characteriseAt s) s

/-- The fan record at the end of a search with result `r` (R120). -/
def endedFan (r : Nat) (f : FanRec) : FanRec :=
  if r = 255 then { f with state := .failed, result := .fail, prior := none, slowCount := 0, failCount := 0 }
  else { f with
    state := .running, result := .pass, prior := none, stallFloor := r + 1, slowCount := 0, failCount := 0 }

/-- The end of a search (R120): FAN_FAULT on a FAIL, and on a PASS from SLOW or FAILED. -/
def endSearch (c : CharRec) (r : Nat) (s : State) : State :=
  let fault := r == 255 || (s.fan c.bay).prior != some .running
  let s := s.modFan c.bay (endedFan r)
  let s := recomputeZone (zoneOfFan c.bay) { s with clc := { s.clc with search := none } }
  raise .characteriseDone supervisors (doWhen fault raiseFanFault s)

/-- The result after the current bit is decided: kept where the fan did not spin at the trial duty (R118). -/
def decidedBit (c : CharRec) (rpm : Nat) : Nat := if rpm < c.threshold then c.trial else c.r

/-- The search at its next lower bit (R118). -/
def nextTrial (c : CharRec) (r : Nat) : CharRec :=
  let bit : Fin 8 := ⟨c.bit.val - 1, by omega⟩
  { c with bit := bit, r := r, trial := r + 2 ^ bit.val, settle := settleMs }

/-- SETTLE_TIMER_EXPIRY (R118, R120); no event while no search is in flight. -/
def execSettleTimerExpiry (s : State) : Out :=
  .next <|
    match s.clc.search with
    | none => s
    | some c =>
      let r := decidedBit c (s.fan c.bay).rpm
      if c.bit = 0 then endSearch c r s
      else recomputeZone (zoneOfFan c.bay) { s with clc := { s.clc with search := some (nextTrial c r) } }

/-- R122. -/
def stopSearch (s : State) : State × Reply :=
  match s.clc.search with
  | none => (s, reply .state)
  | some c => (recomputeZone (zoneOfFan c.bay) (abortSearch s), doneWith (.abortedBay c.bay))

/-- STOP_CHARACTERISATION (R122). -/
def execStopCharacterisation (s : State) : Out := serve 84 anyPayload (fun _ s => stopSearch s) s

end Sys2Proof.Machine
end

