-- ==== Sys2Proof/Machine/Identities.lean ====
section
/-! DEFINITION. The events and services of INV: the ends of identity reads (R153, R181), Reread Identity (R155) and Read
Inventory Record (R156). -/

namespace Sys2Proof.Machine

/-- IDENTITY_READ_END: the last byte of a block has arrived (R153, R181). What is judged is what the read listens to; no event
while no read is in flight, nor for bytes that break off before the last one, whose read runs on to its limit. -/
def execIdentityReadEnd (block : List Byte) (s : State) : Out :=
  finish (fun s =>
    match heardBlock block with
    | some heard => endRead (fun pos => judgeBlock pos heard) s
    | none => s) s

/-- IDENTITY_READ_TIMEOUT: the module has not answered to the end within 100 ms (R153); no event while no read is in
flight. -/
def execIdentityReadTimeout (s : State) : Out := finish (endRead fun _ => (.unreadable, none)) s

/-- IDENTITY_HEADER_REJECT: byte 4 has arrived and the header gives the block no length (R181); a header that gives one ends
no read, and there is no event while no read is in flight. -/
def execIdentityHeaderReject (kind serialLength : Byte) (s : State) : Out :=
  finish (doWhen (!headerGood kind serialLength) (endRead fun _ => (.unreadable, none))) s

/-- Whether a position's identity is read over the identity bus (R148). -/
def readable : Position → Bool
  | .supply _ | .uplink _ => true
  | _ => false

/-- R155, in its order of checks. -/
def rereadAt (n : RecNo) (s : State) : State × Reply :=
  if !readable (positionOf n) then (s, reply .range)
  else if (s.record n).state = .absent then (s, reply .state)
  else if (s.record n).read ≠ .none then (s, reply .busy)
  else (joinReadList n s, reply .accepted)

/-- REREAD_IDENTITY (R155). -/
def execRereadIdentity (record : Byte) (s : State) : Out :=
  serve 94 (exactly [record]) (fun _ s => naming 32 record rereadAt s) s

/-- What Read Inventory Record returns (R156). -/
def invReport (s : State) (ns : List RecNo) : InvReport where
  generation := s.inv.generation
  readList := s.inv.readList
  inFlight := if s.inv.readLeft.isSome then s.inv.readList.head? else none
  records := ns.map fun n => (n, s.record n)

/-- READ_INVENTORY_RECORD (R156). -/
def execReadInventoryRecord (selector : Byte) (s : State) : Out :=
  serveRead 41 (exactly [selector]) (fun _ s =>
    match selection 32 selector with
    | some ns => doneWith (.inventory (invReport s ns))
    | none => reply .range) s

end Sys2Proof.Machine
end

