-- ==== Sys2Proof/Machine/Supplies.lean ====
section
/-! DEFINITION. The events and services of BDU: the supply lines (R48, R49), Set Budget Policy (R60), Read Supply and Read
Budget (R61, R79), and CLC's report of its thermal factors (R69). -/

namespace Sys2Proof.Machine

/-! ### The supply lines -/

/-- A present line is found asserted (R48): an ABSENT supply becomes UNIDENTIFIED and joins the read list. -/
def takeSupplyPresent (b : SupplyBay) (s : State) : State :=
  let s := s.modSupply b fun r => { r with present := true }
  if (s.supply b).state = .absent then joinReadList (supplyRecord b) (writeSupply b .unidentified 0 s) else s

/-- A present line is found deasserted (R48): the supply becomes ABSENT and INV drops its record and read. -/
def takeSupplyAbsent (b : SupplyBay) (s : State) : State :=
  let s := s.modSupply b fun r => { r with present := false }
  if (s.supply b).state = .absent then s else removeUnit (supplyRecord b) (writeSupply b .absent 0 s)

/-- An output-good level is taken (R49). -/
def takeOutputGood (b : SupplyBay) (level : Bool) (s : State) : State :=
  let s := s.modSupply b fun r => { r with outputGood := level }
  match (s.supply b).state, level with
  | .healthy, false => writeSupply b .failed (s.supply b).rating s
  | .failed, true => writeSupply b .healthy (s.supply b).rating s
  | _, _ => s

/-- SUPPLY_PRESENT_ASSERTED (R48). -/
def execSupplyPresentAsserted (b : SupplyBay) (s : State) : Out :=
  finish (fun s => takeSupplyPresent b (s.setLines fun l => { l with supplyPresent := setBit l.supplyPresent b true })) s

/-- SUPPLY_PRESENT_DEASSERTED (R48). -/
def execSupplyPresentDeasserted (b : SupplyBay) (s : State) : Out :=
  finish (fun s => takeSupplyAbsent b (s.setLines fun l => { l with supplyPresent := setBit l.supplyPresent b false })) s

/-- OUTPUT_GOOD_CHANGE (R49). -/
def execOutputGoodChange (b : SupplyBay) (level : Bool) (s : State) : Out :=
  finish (fun s => takeOutputGood b level (s.setLines fun l => { l with outputGood := setBit l.outputGood b level })) s

/-- THERMAL_FACTOR_REPORT: BDU takes one report of CLC, which runs one evaluation (R63, R69, R109, R111); no event while none
is on its way. -/
def execThermalFactorReport (s : State) : Out :=
  finish (fun s =>
    if s.clc.reports = 0 then s
    else reevaluate { s with clc := { s.clc with reports := s.clc.reports - 1 } }) s

/-! ### Set Budget Policy -/

/-- R60: an evaluation runs whether or not any value changed. -/
def setBudget (p : BudgetArgs) (s : State) : State × Reply :=
  match p.mode.value, p.autoRestore.value with
  | some mode, some auto =>
    let policy := p.policy mode auto
    (evaluate (headroom s) { s with bdu := { s.bdu with policy := policy } },
     doneOrClampedWith p.inRange (.budgetPolicy policy))
  | _, _ => (s, reply .range)

/-- SET_BUDGET_POLICY (R60). -/
def execSetBudgetPolicy (p : BudgetArgs) (s : State) : Out :=
  serve 64 anyPayload (fun _ s => setBudget p s) s

/-! ### Reads -/

/-- READ_SUPPLY (R61). -/
def execReadSupply (bay : Byte) (s : State) : Out :=
  serve 33 (exactly [bay]) (fun _ s => naming 6 bay (fun b s => (s, doneWith (.supply (s.supply b)))) s) s

/-- The cap side of one powered slot, with k and e as the last pass computed them (R79): the k of the zone the slot had at that
pass, also where it has been given another zone since (log entry 26). -/
def capLine (s : State) (i : SlotId) : CapLine where
  slot := i
  tier := (s.slot i).tier
  k := s.bdu.lastPass.k.get i
  e := if (s.slot i).state = .on then s.bdu.lastPass.e.get i else none
  cap := (s.slot i).cap

/-- One slot of the shed set, with its committed floor (R79). -/
def shedLine (s : State) (i : SlotId) : ShedLine where
  slot := i
  floor := s.bdu.floors.get i
  reason := (s.slot i).stopReason
  deadline := (s.slot i).deadline

/-- What Read Budget returns (R61, R79). Its redundancy condition is the one R51 computes as the request is served; Read
Chassis Summary's is the one R59 recorded last. The two differ only before the first evaluation after a cold reset (log entry
22). -/
def budgetReport (s : State) : BudgetReport where
  policy := s.bdu.policy
  healthy := healthySet s
  rawCapacity := rawCapacity s
  condition := conditionOf s
  usable := usable s
  fanReserve := s.bdu.fanReserve
  uplinkReserve := s.bdu.uplinkReserve
  overhead := s.bdu.policy.overhead
  reserve := reserve s
  pool := pool s
  floors := s.bdu.floors
  committed := committed s
  headroom := headroom s
  side := s.bdu.side
  outcome := s.bdu.lastPass.outcome
  leftover := s.bdu.lastPass.leftover
  caps := ((indexes 14).filter fun i => (s.slot i).state.powered).map (capLine s)
  shedSet := s.bdu.shedSet.map (shedLine s)
  shedInProgress := !s.bdu.shedSet.isEmpty

/-- READ_BUDGET (R61, R79). -/
def execReadBudget (s : State) : Out :=
  serveRead 34 anyPayload (fun _ s => doneWith (.budget (budgetReport s))) s

end Sys2Proof.Machine
end

