-- ==== Sys2Proof/Machine/Uplinks.lean ====
section
/-! DEFINITION. The events and services of LXC: the bay lines (R125, R126), moves (R135), and the lane and bay requests
(R142 to R145). -/

namespace Sys2Proof.Machine

/-! ### The bay lines -/

/-- A present line is found asserted (R125): an ABSENT bay becomes IDENTIFYING and joins the read list. -/
def takeBayPresent (b : UplinkBay) (s : State) : State :=
  let s := s.modBay b fun r => { r with present := true }
  if (s.bay b).state = .absent then
    joinReadList (uplinkRecord b) (s.modBay b fun r => { r with state := .identifying })
  else s

/-- A present line is found deasserted (R125): the bay becomes ABSENT with its figures 0, gives up its lanes if it was UP,
and INV drops its record and read. -/
def takeBayAbsent (b : UplinkBay) (s : State) : State :=
  let s := s.modBay b fun r => { r with present := false }
  if (s.bay b).state = .absent then s
  else removeUnit (uplinkRecord b) (reportUplinkReserve (bayDownTo b .absent (takeFields b 0 0 0 s)))

/-- A module-fault line is found asserted (R125). -/
def takeModuleFault (b : UplinkBay) (s : State) : State :=
  let s := s.modBay b fun r => { r with moduleFault := true }
  match (s.bay b).state with
  | .identifying | .down | .up => reportUplinkReserve (bayDownTo b .fault s)
  | _ => s

/-- A link-up line is found asserted (R126). -/
def takeLinkUp (b : UplinkBay) (s : State) : State :=
  let s := s.modBay b fun r => { r with linkUp := true }
  if (s.bay b).state = .down ∧ (s.bay b).hold = none then startHold b s else s

/-- A link-up line is found deasserted (R126, R138). -/
def takeLinkDown (b : UplinkBay) (s : State) : State :=
  let s := s.modBay b fun r => { r with linkUp := false }
  match (s.bay b).state with
  | .down => s.modBay b fun r => { r with hold := none }
  | .up => giveUpLanes b (s.modBay b fun r => { r with state := .down })
  | _ => s

/-- UPLINK_PRESENT_ASSERTED (R125). -/
def execUplinkPresentAsserted (b : UplinkBay) (s : State) : Out :=
  finish (fun s => takeBayPresent b (s.setLines fun l => { l with uplinkPresent := setBit l.uplinkPresent b true })) s

/-- UPLINK_PRESENT_DEASSERTED (R125). -/
def execUplinkPresentDeasserted (b : UplinkBay) (s : State) : Out :=
  finish (fun s => takeBayAbsent b (s.setLines fun l => { l with uplinkPresent := setBit l.uplinkPresent b false })) s

/-- MODULE_FAULT_ASSERTED (R125). -/
def execModuleFaultAsserted (b : UplinkBay) (s : State) : Out :=
  finish (fun s => takeModuleFault b (s.setLines fun l => { l with moduleFault := setBit l.moduleFault b true })) s

/-- MODULE_FAULT_DEASSERTED: the field alone is updated (R125). -/
def execModuleFaultDeasserted (b : UplinkBay) (s : State) : Out :=
  .next ((s.setLines fun l => { l with moduleFault := setBit l.moduleFault b false }).modBay b fun r =>
    { r with moduleFault := false })

/-- LINK_UP_ASSERTED (R126). -/
def execLinkUpAsserted (b : UplinkBay) (s : State) : Out :=
  .next (takeLinkUp b (s.setLines fun l => { l with linkUp := setBit l.linkUp b true }))

/-- LINK_UP_DEASSERTED (R126). -/
def execLinkUpDeasserted (b : UplinkBay) (s : State) : Out :=
  .next (takeLinkDown b (s.setLines fun l => { l with linkUp := setBit l.linkUp b false }))

/-- LINK_HOLD_EXPIRY (R126, R140); no event while the bay's hold timer is stopped. -/
def execLinkHoldExpiry (b : UplinkBay) (s : State) : Out :=
  .next (if (s.bay b).state = .down ∧ (s.bay b).hold.isSome then enterUp b s else s)

/-- MOVE_COMPLETION (R135); no event while the lane is not MOVING. -/
def execMoveCompletion (l : LaneId) (s : State) : Out :=
  .next <|
    match (s.lane l).state with
    | .moving t _ =>
      if (s.lane l).pref.contains t then
        raiseLane l (setLaneState l (.bound t) (s.modBay t fun r =>
          { r with movingIn := r.movingIn - 1, bound := r.bound + 1 }))
      else displace [l] s
    | _ => s

/-! ### Set Lane Preference, Edit Lane Enable -/

/-- The list a Set Lane Preference carries: 1–4 distinct bays; none where it is refused (R142). -/
def preferenceOf (count : Byte) (bays : Vector Byte 4) : Option (List UplinkBay) :=
  if count.toNat = 0 ∨ 4 < count.toNat then none
  else
    match (bays.toList.take count.toNat).mapM (nameOf 4) with
    | some l => if l.Nodup then some l else none
    | none => none

/-- The lane is judged against its new list, and the request ends with a rescan (R142). -/
def applyPreference (l : LaneId) (pref : List UplinkBay) (s : State) : State :=
  let s := s.modLane l fun r => { r with pref := pref }
  match (s.lane l).state with
  | .bound b => if pref.contains b then rescan s else displace [l] s
  | _ => rescan s

/-- R142. -/
def setPreference (count : Byte) (bays : Vector Byte 4) (l : LaneId) (s : State) : State × Reply :=
  match preferenceOf count bays with
  | some pref => (applyPreference l pref s, reply .done)
  | none => (s, reply .range)

/-- SET_LANE_PREFERENCE (R142): the lane, a count of bays and four bay bytes (section 10.7). -/
def execSetLanePreference (lane count : Byte) (bays : Vector Byte 4) (s : State) : Out :=
  serve 89 (exactly (lane :: count :: bays.toList)) (fun _ s => naming 28 lane (setPreference count bays) s) s

/-- The lane enable set (section 8.9). -/
def enableSet (s : State) : BitVec 28 :=
  (indexes 28).foldl (fun m (l : LaneId) => setBit m l (s.lane l).enable) 0#28

/-- A lane that has joined the enable set is placed if it is in service, and rests otherwise (R143). -/
def joinService (s : State) (l : LaneId) : State :=
  if inService s l then placeLane l s else s.modLane l fun r => { r with state := restingState r }

/-- R143: lanes leave, the rescan runs, lanes join. -/
def editEnable (set clear : BitVec 32) (s : State) : State × Reply :=
  if maskBeyond 28 set || maskBeyond 28 clear then (s, reply .range)
  else
    let old := enableSet s
    let new := editSet old set clear
    let t := { s with lxc := { s.lxc with
      lanes := tabulate fun l => { s.lxc.lanes.get l with enable := new.getLsbD l } } }
    let left := (indexes 28).filter fun (l : LaneId) => old.getLsbD l && !new.getLsbD l
    let joined := (indexes 28).filter fun (l : LaneId) => !old.getLsbD l && new.getLsbD l
    let t := rescan (left.foldl (fun s l => takeOut l s) t)
    (joined.foldl joinService t, doneWith (.bytes (bytes4 new.toNat)))

/-- EDIT_LANE_ENABLE (R143). -/
def execEditLaneEnable (set clear : BitVec 32) (s : State) : Out :=
  serve 90 anyPayload (fun _ s => editEnable set clear s) s

/-! ### Set Failback, Set Link Hold, Set Move Time -/

/-- R144. -/
def setFailback (failback : FlagArg) (s : State) : State × Reply :=
  match failback.value with
  | some f => ({ s with lxc := { s.lxc with failback := f } }, reply .done)
  | none => (s, reply .range)

/-- SET_FAILBACK (R144). -/
def execSetFailback (failback : FlagArg) (s : State) : Out :=
  serve 91 anyPayload (fun _ s => setFailback failback s) s

/-- R144. -/
def setLinkHold (hold : Nat) (s : State) : State × Reply :=
  let h := clamp 0 10000 hold
  ({ s with lxc := { s.lxc with linkHold := h } }, doneOrClampedWith (decide (h = hold)) (.linkHold h))

/-- SET_LINK_HOLD (R144): the hold in ms, two bytes. -/
def execSetLinkHold (hold : BitVec 16) (s : State) : Out :=
  serve 92 (exactly (bytes2 hold.toNat)) (fun _ s => setLinkHold hold.toNat s) s

/-- R144. -/
def setMoveTime (time : Nat) (s : State) : State × Reply :=
  let t := clamp 1 255 time
  ({ s with lxc := { s.lxc with moveTime := t } }, doneOrClampedWith (decide (t = time)) (.moveTime t))

/-- SET_MOVE_TIME (R144): the move time in ms, one byte. -/
def execSetMoveTime (time : Byte) (s : State) : Out :=
  serve 93 (exactly [time]) (fun _ s => setMoveTime time.toNat s) s

/-! ### Read Lane, Read Bay (R145) -/

/-- What Read Lane returns (R145). -/
def laneReport (s : State) (ls : List LaneId) : LaneReport where
  lanes := ls.map fun l => (l, s.lane l)
  waitList := s.lxc.waitList
  failback := s.lxc.failback
  moveTime := s.lxc.moveTime

/-- READ_LANE (R145). -/
def execReadLane (selector : Byte) (s : State) : Out :=
  serveRead 39 (exactly [selector]) (fun _ s =>
    match selection 28 selector with
    | some ls => doneWith (.lanes (laneReport s ls))
    | none => reply .range) s

/-- READ_BAY (R145). -/
def execReadBay (selector : Byte) (s : State) : Out :=
  serveRead 40 (exactly [selector]) (fun _ s =>
    match selection 4 selector with
    | some bs => doneWith (.bays (bs.map fun b => (b, s.bay b)) s.lxc.linkHold)
    | none => reply .range) s

end Sys2Proof.Machine
end

