-- ==== Sys2Proof/Machine/Reset.lean ====
section
/-! DEFINITION. The cold and the warm reset of the whole controller (R24, R46, R62, R80, R94, R114, R115, R121, R123, R146,
R147, R157, R171, R172, R177), and the commands that take one. -/

namespace Sys2Proof.Machine

/-! ### The cold reset -/

/-- Every block at its Cold value, with the line fields at the levels given; the queue of waiting commands and the count of
free values used are not the controller's and stand. No measurement of the reset input runs, also where the input is found
asserted, which R171 leaves open: the model waits for the next assertion (log entry 24). -/
def coldState (l : Lines) (s : State) : State where
  slots := tabulate (coldSlot l)
  psq := coldPsq
  bdu := coldBdu l
  ssc := coldSsc
  clc := coldClc
  lxc := coldLxc l
  inv := coldInv
  lnk := resetLnk .cold none
  lines := l
  freeCount := s.freeCount
  pending := s.pending

/-- `f` at every index where the bit is set, in ascending order. -/
def forEach {n : Nat} (p : Fin n → Bool) (f : Fin n → State → State) (s : State) : State :=
  ((indexes n).filter p).foldl (fun s i => f i s) s

/-- INV samples every strap (R151, R157). -/
def takeStraps (s : State) : State := forEach (fun _ => true) (fun b s => takeStrap b (strapOf s.lines.straps b) s) s

/-- The cold reset with the lines at the levels `l` (R24, R62, R94, R114, R146, R157). -/
def coldReset (l : Lines) (s : State) : State :=
  let s := coldState l s
  let s := forEach (fun i => l.presence.getLsbD i) takePresence s
  let s := takeStraps s
  let s := doWhen l.tripInput latchTrip s
  let s := forEach (fun b => l.supplyPresent.getLsbD b) takeSupplyPresent s
  let s := forEach (fun b => l.uplinkPresent.getLsbD b) takeBayPresent s
  settle (startScan .periodic s)

/-- POWER_ON (R171). -/
def execPowerOn (l : Lines) (s : State) : Out := .next (coldReset l s)

/-! ### The warm reset -/

/-- The lines at a warm reset: those the blocks compare with their records are sampled; the latch, power-good, overcurrent and
reset lines, which no rule compares, stand as last taken (log entry 8). -/
def warmLines (l old : Lines) : Lines :=
  { l with
    latchOpen := old.latchOpen, powerGood := old.powerGood, overcurrent := old.overcurrent, resetInput := old.resetInput }

/-- The scan in flight is abandoned, and the deliveries not yet taken with it (R94, R115; log entry 8). -/
def abandonScan (s : State) : State :=
  { s with ssc := { s.ssc with scan := none, toClc := [], toSlc := [] } }

/-- The read in flight is abandoned; its position stays at the head of the list, WAITING (R157). -/
def abandonRead (s : State) : State :=
  match s.inv.readLeft, s.inv.readList with
  | some _, n :: _ =>
    { s.modRecord n fun r => { r with read := .waiting } with
      inv := { (s.modRecord n fun r => { r with read := .waiting }).inv with readLeft := none } }
  | _, _ => s

/-- The sources and their backup stages are emptied and the trigger flag cleared (R46). -/
def emptySources (s : State) : State :=
  { s with psq := { s.psq with
      urgentEntry := none, urgentBackup := none, queue := [], queueBackup := none, pendingSet := 0, trigger := false } }

/-- The slot record of a state that a warm reset keeps, with its timers restarted (R24). -/
def warmSlot (shed : Nat) (r : SlotRec) : SlotRec :=
  match r.state with
  | .detecting => { r with debounce := some debounceMs }
  | .seated => { r with announceTimer := some announceMs }
  | .on => { r with pulse := .idle, resetLine := false }
  | .stopping =>
    { r with deadline := some (if r.stopReason = some .shed then shed else r.shutdownTimeout * 1000) }
  | _ => r

/-- One row of the table of R24. -/
def warmSlotAt (s : State) (i : SlotId) : State :=
  match (s.slot i).state with
  | .queued => enter i .standby (s.modSlot i fun r => { r with holdingSource := none })
  | .precharge => removePower i .standby id true s
  | _ => s.modSlot i (warmSlot (shedMs s))

/-- SLC compares a slot's presence field with its line (R24). -/
def comparePresence (s : State) (i : SlotId) : State :=
  if s.lines.presence.getLsbD i then takePresence i s
  else if (s.slot i).presence then extract i s
  else s

/-- PSQ and SLC at a warm reset: the sources are emptied, the table of R24 is applied, and the resource is FREE (R24, R46). -/
def warmSlots (s : State) : State :=
  let s := (indexes 14).foldl warmSlotAt (emptySources s)
  { s with psq := { s.psq with resource := .free } }

/-- SLC compares the presence lines, after the table of R24. -/
def comparePresences (s : State) : State := (indexes 14).foldl comparePresence s

/-- BDU compares a supply's present and output-good fields with the lines (R62). -/
def compareSupply (s : State) (b : SupplyBay) : State :=
  let present := s.lines.supplyPresent.getLsbD b
  let s := if present == (s.supply b).present then s
    else if present then takeSupplyPresent b s else takeSupplyAbsent b s
  let good := s.lines.outputGood.getLsbD b
  if good == (s.supply b).outputGood then s else takeOutputGood b good s

/-- BDU at a warm reset ends with an evaluation (R62). The supplies' differences are taken by ascending bay, present before
output-good, each as the whole event of its rule: the model's order (log entry 8). -/
def warmBudget (s : State) : State := reevaluate ((indexes 6).foldl compareSupply s)

/-- CLC at a warm reset: a search is aborted with its commands left as they stand, every previous capture becomes invalid, and
the trip input is sampled (R115, R121, R123). -/
def warmCooling (s : State) : State :=
  let s := abortSearch s
  let s := { s with clc := { s.clc with captures := tabulate fun _ => none } }
  doWhen s.lines.tripInput latchTrip s

/-- A running hold timer is restarted with the full hold while the link-up line is asserted, and stopped otherwise (R147). -/
def restartHold (s : State) (b : UplinkBay) : State :=
  match (s.bay b).hold with
  | none => s
  | some _ => if s.lines.linkUp.getLsbD b then startHold b s else s.modBay b fun r => { r with hold := none }

/-- LXC compares a bay's present, link-up and module-fault fields with the lines, in that order, each difference being the
whole event of its rule (R147; log entry 8). -/
def compareBay (s : State) (b : UplinkBay) : State :=
  let present := s.lines.uplinkPresent.getLsbD b
  let s := if present == (s.bay b).present then s
    else if present then takeBayPresent b s else takeBayAbsent b s
  let up := s.lines.linkUp.getLsbD b
  let s := if up == (s.bay b).linkUp then s else if up then takeLinkUp b s else takeLinkDown b s
  let fault := s.lines.moduleFault.getLsbD b
  if fault == (s.bay b).moduleFault then s
  else if fault then takeModuleFault b s
  else s.modBay b fun r => { r with moduleFault := false }

/-- Whether a lane is MOVING. -/
def isMoving (r : LaneRec) : Bool :=
  match r.state with
  | .moving _ _ => true
  | _ => false

/-- LXC at a warm reset: the MOVING lanes are released, the holds restarted, the lines compared by ascending bay, and after the
rescan those lanes are placed in ascending order (R147). SLC's extractions come after it, so that the wait list reaches LXC's
own work in the order the reset found (log entry 8). -/
def warmLanes (s : State) : State :=
  let movers := (indexes 28).filter fun l => isMoving (s.lane l)
  let s := movers.foldl (fun s l => releaseLane l s) s
  let s := (indexes 4).foldl compareBay ((indexes 4).foldl restartHold s)
  movers.foldl (fun s l => placeLane l s) (rescan s)

/-- SSC's new schedule from the kept source (R94). -/
def warmScan (s : State) : State :=
  if s.ssc.source = .periodic then
    startScan .periodic { s with ssc := { s.ssc with periodTimer := some s.ssc.period } }
  else { s with ssc := { s.ssc with periodTimer := none } }

/-- The warm reset with the lines at the levels `l` (log entry 8 gives the order of the blocks). -/
def warmReset (kind : ResetKind) (l : Lines) (s : State) : State :=
  let s := { s with
    lnk := resetLnk kind s.lnk.resetMeasure
    lines := warmLines l s.lines
    psq := { s.psq with roundDue := false } }
  let s := comparePresences (warmLanes (warmSlots (abandonRead (abandonScan s))))
  let s := takeStraps (warmCooling (warmBudget s))
  settle (startRead (warmScan s))

/-! ### The reset input (R171) -/

/-- RESET_INPUT_ASSERTED: LNK starts measuring (R171). -/
def execResetInputAsserted (s : State) : Out :=
  let s := s.setLines fun l => { l with resetInput := true }
  .next { s with lnk := { s.lnk with resetMeasure := some 0 } }

/-- The measurement ends. -/
def endMeasure (s : State) : State := { s with lnk := { s.lnk with resetMeasure := none } }

/-- RESET_INPUT_DEASSERTED: a warm reset while the input is measured; nothing after the cold reset of the 1 s mark (R171). -/
def execResetInputDeasserted (l : Lines) (s : State) : Out :=
  let t := s.setLines fun l => { l with resetInput := false }
  .next <|
    match s.lnk.resetMeasure with
    | some _ => warmReset .warmInput l (endMeasure t)
    | none => t

/-- RESET_INPUT_HELD_1S: the cold reset at the 1 s mark (R171); no event while nothing is measured. -/
def execResetInputHeld1s (l : Lines) (s : State) : Out :=
  .next <|
    match s.lnk.resetMeasure with
    | some _ => coldReset { l with resetInput := true } s
    | none => s

end Sys2Proof.Machine
end

