-- ==== Sys2Proof/Machine/Links.lean ====
section
/-! DEFINITION. The events and services of LNK: arrivals (R159, R160), the take (R163, R164, R166), transmission (R161),
primacy (R168, R169), the service table (R162, R165), the chassis summary (R170), Restart Controller (R171) and the notice
requests (R174, R175, R176). -/

namespace Sys2Proof.Machine

/-! ### Arrivals -/

/-- An answer formed at arrival: the port enters ANSWERING with the response formed and no request held (R160). -/
def answerAtArrival (kind : Byte) (o : OutcomeCode) (r : PortRec) : PortRec :=
  { r with state := .answering, tx := r.tx ++ [.response ⟨kind, o, .empty⟩] }

/-- Whether a BUSY answer of the port still waits (R160). -/
def busyWaits (r : PortRec) : Bool :=
  r.tx.any fun t => match t with
    | .busy _ => true
    | _ => false

/-- A sound frame at its port (R160): discarded while a BUSY answer of the port still waits, in every port state (log entry
19). -/
def arrive (f : FrameParts) (r : PortRec) : PortRec :=
  if busyWaits r then r
  else match r.state with
    | .idle =>
      if (authorityOf f.kind).isNone then answerAtArrival f.kind .unknown r
      else if !lengthAllowed f.kind f.payload then answerAtArrival f.kind .format r
      else { r with state := .waiting, held := some ⟨f.kind, f.payload⟩ }
    | _ => { r with tx := r.tx ++ [.busy f.kind] }

/-- REQUEST_FRAME: the check byte of a frame has arrived (R159, R160). Bytes that are not one whole frame are no such
event. -/
def execRequestFrame (port : Port) (frame : List Byte) (s : State) : Out :=
  .next <|
    match frameParts frame with
    | none => s
    | some f =>
      let s := s.modPort port fun r => { r with rx := [] }
      if checkGood frame then s.modPort port (arrive f) else s

/-- OVERLONG_LENGTH_DISCARD: the two bytes received are dropped at a length byte above 60 (R159). -/
def execOverlongLengthDiscard (port : Port) (_kind length : Byte) (s : State) : Out :=
  .next (doWhen (decide (maxPayload < length.toNat)) (State.modPort port fun r => { r with rx := [] }) s)

/-- INTER_BYTE_TIMEOUT: the bytes received so far are dropped (R159). -/
def execInterByteTimeout (port : Port) (s : State) : Out := .next (s.modPort port fun r => { r with rx := [] })

/-! ### The take -/

def isWaiting (s : State) (p : Port) : Bool := (s.port p).state == .waiting

/-- The ports in cyclic order after `last` (R164). -/
def cyclicAfter (last : Port) : List Port := (indexes 16).map fun n => last + 1 + n

/-- The round-robin choice of a class (R164). -/
def roundRobin (s : State) (c : PortClass) (last : Port) : Option Port :=
  (cyclicAfter last).find? fun p => isWaiting s p && (s.port p).cls == c

/-- The bank that is selected. -/
def selectedTable (l : Lnk) : Vector Entry 16 := if l.selectedBank = 0 then l.bank0 else l.bank1

/-- Step 1 of the take: the port chosen, with the round-robin pointers as the choice leaves them (R163, R164). -/
def choose (s : State) : Option (Port × Lnk) :=
  let e := (selectedTable s.lnk).get s.lnk.pointer
  if !e.vacant && isWaiting s e.port then some (e.port, s.lnk)
  else match roundRobin s .high s.lnk.lastHigh with
    | some p => some (p, { s.lnk with lastHigh := p })
    | none => (roundRobin s .low s.lnk.lastLow).map fun p => (p, { s.lnk with lastLow := p })

/-- Step 2 of the take: the pointer advances, and a pending swap takes effect at an end entry (R162, R163). -/
def advance (l : Lnk) : Lnk :=
  if ((selectedTable l).get l.pointer).last || l.pointer == 15 then
    if l.swapPending then { l with selectedBank := l.selectedBank + 1, swapPending := false, pointer := 0 }
    else { l with pointer := 0 }
  else { l with pointer := l.pointer + 1 }

/-- The supervisor of a port holds primacy. -/
def holdsPrimacy (s : State) (p : Port) : Bool := s.lnk.holder.isSome && supervisorOf p == s.lnk.holder

/-- The authority check: the outcome a refused request is answered with; none where it passes (R166). -/
def refusal (s : State) (p : Port) (r : Request) : Option OutcomeCode :=
  let blade := decide (p.val < 14)
  match authorityOf r.kind with
  | some .own => if blade && r.payload.head? == some (BitVec.ofNat 8 p.val) then none else some .notOwner
  | some .any => none
  | some .anySupervisor => if blade then some .notOwner else none
  | some .primary => if blade then some .notOwner else if holdsPrimacy s p then none else some .notPrimary
  | none => some .unknown

/-- Step 3 of the take: the chosen port is ANSWERING; a request that passes is in service, and one that is refused is
answered at once (R163, R166). -/
def takePort (p : Port) (s : State) : State :=
  match (s.port p).held with
  | none => s
  | some r =>
    let t := s.modPort p fun x => { x with state := .answering }
    match refusal s p r with
    | none => { t with lnk := { t.lnk with engine := .serving p } }
    | some o => formResponse p r.kind (reply o) t

/-- TAKE (R163); no event while the engine is busy or no port is WAITING. -/
def execTake (s : State) : Out :=
  .next <|
    if s.lnk.engine = .free then
      match choose s with
      | some (p, l) => takePort p { s with lnk := advance l }
      | none => s
    else s

/-! ### Transmission -/

/-- RESPONSE_SENT: the last byte of the response to a port's held request has been transmitted (R161); of a Restart
Controller, the warm reset is then taken (R171). No event while another answer, or none, is in transmission. -/
def execResponseSent (port : Port) (lines : Lines) (s : State) : Out :=
  .next <|
    match (s.port port).tx with
    | .response _ :: rest =>
      if s.lnk.engine = .restarting port then warmReset .warmRestart lines s
      else s.modPort port fun r => { r with state := .idle, tx := rest }
    | _ => s

/-- BUSY_ANSWER_SENT: a BUSY answer has been transmitted; the port state is not affected (R160, R161). -/
def execBusyAnswerSent (port : Port) (s : State) : Out :=
  .next <|
    match (s.port port).tx with
    | .busy _ :: rest => s.modPort port fun r => { r with tx := rest }
    | _ => s

/-! ### Primacy -/

/-- PRIMACY (R168, R169). -/
def raisePrimacy (s : State) : State := raise .primacy supervisors s

/-- The period a claim leaves: its own, brought into 1–60 s, or the one held (R168). -/
def claimedPeriod (held : Nat) (period : Option Byte) : Nat :=
  match period with
  | some b => clamp 1 60 b.toNat
  | none => held

/-- A claim granted or renewed (R168). -/
def grant (c : Supervisor) (period : Option Byte) (s : State) : State × Reply :=
  let p := claimedPeriod s.lnk.period period
  let fresh := s.lnk.holder.isNone
  let t := { s with lnk := { s.lnk with holder := some c, period := p, periodLeft := some (p * 1000) } }
  (doWhen fresh raisePrimacy t,
   ⟨doneOrClamped (period.all fun b => decide (b.toNat = p)), .primacy (some c) p⟩)

/-- R168. -/
def claim (period : Option Byte) (p : Port) (s : State) : State × Reply :=
  match supervisorOf p with
  | none => (s, reply .notOwner)
  | some c => if s.lnk.holder = none ∨ s.lnk.holder = some c then grant c period s else (s, reply .state)

/-- CLAIM_PRIMACY (R168): no payload, or one byte. -/
def execClaimPrimacy (period : Option Byte) (s : State) : Out :=
  serve 42 (exactly period.toList) (claim period) s

/-- Nobody holds primacy, and the timer is stopped (R169). -/
def endPrimacy (s : State) : State :=
  raisePrimacy { s with lnk := { s.lnk with holder := none, periodLeft := none } }

/-- R169. -/
def releasePrimacyOf (p : Port) (s : State) : State × Reply :=
  if holdsPrimacy s p then (endPrimacy s, reply .done) else (s, reply .state)

/-- RELEASE_PRIMACY (R169). -/
def execReleasePrimacy (s : State) : Out := serve 43 anyPayload releasePrimacyOf s

/-- PRIMACY_PERIOD_EXPIRY (R169); no event while nobody holds primacy. -/
def execPrimacyPeriodExpiry (s : State) : Out := .next (doWhen s.lnk.holder.isSome endPrimacy s)

/-! ### The service table -/

/-- An entry as the bank holds it; a vacant entry names no port (R162), and the model stores 0 in its port field whatever byte
the request carried (log entry 23). -/
def entryOf (e : EntryArg) : Option Entry :=
  if e.vacant then some ⟨0, true, e.last⟩ else (nameOf 16 e.port).map fun p => ⟨p, false, e.last⟩

/-- A bank written from entry 0, the rest vacant with the end flag set (R165). -/
def bankOf (es : List Entry) : Vector Entry 16 := tabulate fun n => es.getD n.val vacantEntry

/-- The other bank than the selected one is written (R165). -/
def writeBank (bank : Fin 2) (t : Vector Entry 16) (l : Lnk) : Lnk :=
  if bank = 0 then { l with bank0 := t } else { l with bank1 := t }

/-- R165, in its order of checks. -/
def loadTable (bank : Byte) (entries : List EntryArg) (s : State) : State × Reply :=
  match nameOf 2 bank, entries.mapM entryOf with
  | some k, some es =>
    if k = s.lnk.selectedBank then (s, reply .state)
    else if s.lnk.swapPending then (s, reply .busy)
    else ({ s with lnk := writeBank k (bankOf es) s.lnk }, reply .done)
  | _, _ => (s, reply .range)

/-- LOAD_SERVICE_TABLE (R165): one bank byte and two bytes per entry (section 10.7). -/
def execLoadServiceTable (bank : Byte) (entries : List EntryArg) (s : State) : Out :=
  serve 95 (ofLength (1 + 2 * entries.length)) (fun _ s => loadTable bank entries s) s

/-- R165. -/
def swapTable (s : State) : State × Reply :=
  if s.lnk.swapPending then (s, reply .busy)
  else ({ s with lnk := { s.lnk with swapPending := true } }, reply .accepted)

/-- SWAP_SERVICE_TABLE (R165). -/
def execSwapServiceTable (s : State) : Out := serve 96 anyPayload (fun _ s => swapTable s) s

/-- R164: every port in the set is HIGH, every other LOW. -/
def setClasses (high : BitVec 16) (s : State) : State :=
  { s with lnk := { s.lnk with ports := tabulate fun p =>
      { s.lnk.ports.get p with cls := if high.getLsbD p then .high else .low } } }

/-- SET_PORT_PRIORITY (R164): a port mask of two bytes. -/
def execSetPortPriority (high : BitVec 16) (s : State) : Out :=
  serve 97 (exactly (bytes2 high.toNat)) (fun _ s => (setClasses high s, reply .done)) s

/-! ### The chassis summary and Restart Controller -/

/-- What Read Chassis Summary returns (R170). Its redundancy condition is the one last recorded (R59, R62), which is MET after
a cold reset until the first evaluation; Read Budget's is the one computed (log entry 22). -/
def chassisSummary (p : Port) (s : State) : ChassisSummary where
  port := p
  holder := s.lnk.holder
  period := s.lnk.period
  periodLeft := s.lnk.periodLeft
  lastReset := s.lnk.lastReset
  selectedBank := s.lnk.selectedBank
  swapPending := s.lnk.swapPending
  pointer := s.lnk.pointer
  classes := tabulate fun q => (s.port q).cls
  ports := tabulate fun q => (s.port q).state
  slots := tabulate fun i => (s.slot i).state
  generation := s.inv.generation
  redundancy := s.bdu.redundancy
  headroom := headroom s
  shedInProgress := !s.bdu.shedSet.isEmpty
  trip := s.clc.trip

/-- READ_CHASSIS_SUMMARY (R170). -/
def execReadChassisSummary (s : State) : Out :=
  serveRead 18 anyPayload (fun p s => doneWith (.summary (chassisSummary p s))) s

/-- RESTART_CONTROLLER (R171): the response is formed, and the engine takes nothing more until it has been sent. -/
def execRestartController (s : State) : Out :=
  .next <|
    match servedPort s 99 anyPayload with
    | some p =>
      let t := formResponse p 99 (reply .done) s
      { t with lnk := { t.lnk with engine := .restarting p } }
    | none => s

/-! ### The notice requests -/

/-- The part of a mask a port may select (R174). -/
def selectable (p : Port) (mask : BitVec 16) : BitVec 16 := mask &&& entitlement p

/-- The selected set after an edit by a port (R174). -/
def selectedAfter (p : Port) (old set clear : BitVec 16) : BitVec 16 :=
  editSet old (selectable p set) (selectable p clear)

/-- R174. -/
def selectAt (set clear : BitVec 16) (p : Port) (s : State) : State × Reply :=
  let new := selectedAfter p (s.port p).selected set clear
  (s.modPort p fun r => { r with selected := new },
   ⟨doneOrClamped (selectable p set == set && selectable p clear == clear), .bytes (bytes2 new.toNat)⟩)

/-- SELECT_CONDITIONS (R174): the set mask and then the clear mask, two bytes each (section 12.4). -/
def execSelectConditions (set clear : BitVec 16) (s : State) : Out :=
  serve 16 (exactly (bytes2 set.toNat ++ bytes2 clear.toNat)) (selectAt set clear) s

/-- R175: the pending set is returned and emptied, and the attention line deasserted. -/
def fetch (p : Port) (s : State) : State × Reply :=
  (s.modPort p fun r => { r with pending := 0, attention := false },
   doneWith (.bytes (bytes2 (s.port p).pending.toNat)))

/-- FETCH_NOTICES (R175). -/
def execFetchNotices (s : State) : Out := serve 17 anyPayload fetch s

/-- The named ports on which POSTED is pending (R176), a port that has deselected it while it was pending (R174) among them:
pending alone decides (log entry 25). -/
def postedOn (ports : BitVec 16) (s : State) : BitVec 16 :=
  (indexes 16).foldl (fun m (p : Port) =>
    if ports.getLsbD p && (s.port p).pending.getLsbD Cond.posted.bit then setBit m p true else m) 0#16

/-- R176. -/
def post (ports : BitVec 16) (s : State) : State × Reply :=
  let t := raise .posted ports s
  (t, doneWith (.bytes (bytes2 (postedOn ports t).toNat)))

/-- POST_NOTICE (R176): a port mask of two bytes. -/
def execPostNotice (ports : BitVec 16) (s : State) : Out :=
  serve 98 (exactly (bytes2 ports.toNat)) (fun _ s => post ports s) s

end Sys2Proof.Machine
end

