-- ==== Sys2Proof/Machine/Scanner.lean ====
section
/-! DEFINITION. The events and services of SSC (R84, R86, R89 to R93). -/

namespace Sys2Proof.Machine

/-- PERIOD_TIMER_EXPIRY (R84): the timer restarts itself and the expiry is a start cause; no event while the timer is
stopped. -/
def execPeriodTimerExpiry (s : State) : Out :=
  .next <|
    match s.ssc.periodTimer with
    | none => s
    | some _ => startCause .periodic { s with ssc := { s.ssc with periodTimer := some s.ssc.period } }

/-- The scan moves to the channels left in its list, or completes with the last of them (R88, R91). -/
def nextChannel (c : ScanRec) (rest : List Channel) (s : State) : State :=
  match rest with
  | [] => completeScan s
  | _ => { s with ssc := { s.ssc with scan := some { c with todo := rest, left := channelMs } } }

/-- CHANNEL_READ_END (R89, R91); no event while no scan is in flight. -/
def execChannelReadEnd (answer : SensorAnswer) (s : State) : Out :=
  .next <|
    match s.ssc.scan with
    | none => s
    | some c =>
      match c.todo with
      | [] => completeScan s
      | ch :: rest => nextChannel c rest (takeReading ch (readValue ch answer) s)

/-- R86. -/
def scanNow (s : State) : State × Reply :=
  match s.ssc.scan with
  | none => (startScan .request s, ⟨.accepted, .scanCount s.ssc.completed⟩)
  | some _ => (s, reply .busy)

/-- SCAN_NOW (R86). -/
def execScanNow (s : State) : Out := serve 44 anyPayload (fun _ s => scanNow s) s

/-- R92: the period timer restarts in PERIODIC and stops in the other sources. -/
def setScan (source : ScanSourceArg) (period : Nat) (s : State) : State × Reply :=
  match source.value with
  | none => (s, reply .range)
  | some src =>
    let p := clamp 100 60000 period
    ({ s with ssc := { s.ssc with
        source := src, period := p, periodTimer := if src = .periodic then some p else none } },
     doneOrClampedWith (decide (p = period)) (.scanPeriod p))

/-- SET_SCAN (R92). -/
def execSetScan (source : ScanSourceArg) (period : Nat) (s : State) : Out :=
  serve 87 anyPayload (fun _ s => setScan source period s) s

/-- A reading after an edit of the enable set: leaving gives DISABLED, joining NONE (R90). -/
def editReading (old new : BitVec 20) (c : Channel) (r : Reading) : Reading :=
  match old.getLsbD c, new.getLsbD c with
  | true, false => ⟨.disabled, none, 0⟩
  | false, true => ⟨.none, none, 0⟩
  | _, _ => r

/-- A channel mask as its three bytes (section 10.7). -/
def bytes3 (n : Nat) : List Byte := BitVec.ofNat 8 (n / 65536) :: bytes2 n

/-- R90. -/
def editChannels (set clear : BitVec 24) (s : State) : State × Reply :=
  if maskBeyond 20 set || maskBeyond 20 clear then (s, reply .range)
  else
    let e := editSet s.ssc.enable set clear
    ({ s with ssc := { s.ssc with
        enable := e
        readings := tabulate fun c => editReading s.ssc.enable e c (s.ssc.readings.get c) } },
     doneWith (.bytes (bytes3 e.toNat)))

/-- EDIT_CHANNEL_SET (R90). -/
def execEditChannelSet (set clear : BitVec 24) (s : State) : Out :=
  serve 88 anyPayload (fun _ s => editChannels set clear s) s

/-- The scanner summary and the readings asked for (R93). -/
def sensorReport (s : State) (cs : List Channel) : SensorReport where
  source := s.ssc.source
  period := s.ssc.period
  enable := s.ssc.enable
  scanning := s.ssc.scan.map fun c => (c.cause, c.todo.head?, c.todo.length - 1)
  overrun := s.ssc.overrun
  completed := s.ssc.completed
  readings := cs.map fun c => (c, s.reading c)

/-- R93: the overrun flag is reported as it stands and then cleared. -/
def readSensor (selector : Byte) (s : State) : State × Reply :=
  match selection 20 selector with
  | none => (s, reply .range)
  | some cs => ({ s with ssc := { s.ssc with overrun := false } }, doneWith (.sensor (sensorReport s cs)))

/-- READ_SENSOR (R93). -/
def execReadSensor (selector : Byte) (s : State) : Out :=
  serve 38 (exactly [selector]) (fun _ s => readSensor selector s) s

end Sys2Proof.Machine
end

