-- ==== Sys2Proof/Machine/SequencerRequests.lean ====
section
/-! DEFINITION. The services of PSQ (R29, R30, R32, R33, R35, R41 to R45). -/

namespace Sys2Proof.Machine

/-! ### Adding holdings -/

/-- R29, in its order of checks. -/
def powerOnNow (i : SlotId) (notify : FlagArg) (s : State) : State × Reply :=
  match notify.value with
  | none => (s, reply .range)
  | some n =>
    if !mayHold s i then (s, reply .state)
    else if s.psq.urgentEntry.isSome then (s, reply .full)
    else
      (enterQueued i .urgent { s with psq := { s.psq with urgentEntry := some ⟨i, false, n⟩ } }, reply .accepted)

/-- POWER_ON_NOW (R29). -/
def execPowerOnNow (slot : Byte) (notify : FlagArg) (s : State) : Out :=
  serve 68 anyPayload (fun _ s => naming 14 slot (fun i => powerOnNow i notify) s) s

/-- The places of a request, where every one of them is a place and no slot is named twice (R30). -/
def placesOf (l : List PlaceArg) : Option (List Place) :=
  match l.mapM PlaceArg.place with
  | some ps => if (ps.map (·.slot)).Nodup then some ps else none
  | none => none

/-- An accepted list is appended in its order, and each slot becomes QUEUED (R30). -/
def appendPlaces (ps : List Place) (s : State) : State :=
  ps.foldl (fun s p => enterQueued p.slot .queue s) { s with psq := { s.psq with queue := s.psq.queue ++ ps } }

/-- R30: the request is checked whole before any place is taken. -/
def queuePowerOn (l : List PlaceArg) (s : State) : State × Reply :=
  match placesOf l with
  | none => (s, reply .range)
  | some ps => if ps.all fun p => mayHold s p.slot then (appendPlaces ps s, reply .accepted) else (s, reply .state)

/-- QUEUE_POWER_ON (R30): two payload bytes per place (section 10.7). -/
def execQueuePowerOn (places : List PlaceArg) (s : State) : Out :=
  serve 69 (ofLength (2 * places.length)) (fun _ s => queuePowerOn places s) s

/-- STEP_SEQUENCE (R35): one trigger; STATE where the next place does not wait or there is none. R35 gives two answers where
the flag is already set for the head while a backup stage, which does not wait, is the next place (DONE, since the flag is set
after the request; STATE, since the trigger was ignored): the model answers STATE (log entry 21). -/
def execStepSequence (s : State) : Out :=
  serve 70 anyPayload (fun _ s =>
    (deliverTrigger s, reply (if (considered s.psq .queue).any (·.wait) then .done else .state))) s

/-! ### The admission group -/

/-- R32. -/
def editGroup (set clear : BitVec 16) (s : State) : State × Reply :=
  if maskBeyond 14 set || maskBeyond 14 clear then (s, reply .range)
  else
    let g := editSet s.psq.group set clear
    ({ s with psq := { s.psq with group := g } }, doneWith (.bytes (bytes2 g.toNat)))

/-- EDIT_ADMISSION_GROUP (R32): the set mask and the clear mask, two bytes each. -/
def execEditAdmissionGroup (set clear : BitVec 16) (s : State) : Out :=
  serve 71 anyPayload (fun _ s => editGroup set clear s) s

/-- The slots of the group that join the pending set in a load: in STANDBY with the latch closed (R33). -/
def joiners (s : State) : List SlotId := (indexes 14).filter fun i => s.psq.group.getLsbD i && mayHold s i

/-- The pending slots that a REPLACE load drops (R33). -/
def dropped (s : State) : List SlotId := (pendingSlots s.psq).filter fun i => !s.psq.group.getLsbD i

/-- The group slots passed over as not eligible (R33). -/
def passedOver (s : State) : BitVec 14 :=
  (indexes 14).foldl (fun m (i : SlotId) =>
    if s.psq.group.getLsbD i && !s.psq.pendingSet.getLsbD i && !mayHold s i then setBit m i true else m) 0#14

/-- R33: the slots join and leave together. -/
def loadGroup (replace : Bool) (s : State) : State × Reply :=
  let missed := passedOver s
  let t := (joiners s).foldl (fun s i => admissionAdd i s) s
  let t := if replace then (dropped s).foldl (fun s i => removeHolding i s) t else t
  (t, doneWith (.admissionLoad t.psq.pendingSet missed))

/-- LOAD_ADMISSION_GROUP (R33). -/
def execLoadAdmissionGroup (mode : LoadModeArg) (s : State) : Out :=
  serve 72 anyPayload (fun _ s =>
    match mode with
    | .replace => loadGroup true s
    | .merge => loadGroup false s
    | .other => (s, reply .range)) s

/-! ### Settings and maintenance -/

/-- R43. -/
def configure (p : SequencerArgs) (s : State) : State × Reply :=
  match p.urgent.value, p.queue.value, p.admission.value, p.trigger.value with
  | some u, some q, some a, some sync =>
    let pre := clamp 50 2000 p.prechargeTime
    let gap := clamp 0 1000 p.inrushGap
    let changed := u != s.psq.urgent || q != s.psq.queueSettings || a != s.psq.admission
    let t := { s with psq := { s.psq with
      urgent := u, queueSettings := q, admission := a, triggerOnSync := sync, prechargeTime := pre, inrushGap := gap } }
    (doWhen changed callRound t, doneOrClampedWith p.inRange (.sequencerSettings u q a pre gap))
  | _, _, _, _ => (s, reply .range)

/-- CONFIGURE_SEQUENCER (R43). -/
def execConfigureSequencer (p : SequencerArgs) (s : State) : Out :=
  serve 73 anyPayload (fun _ s => configure p s) s

/-- R44. -/
def setPause (pause : FlagArg) (s : State) : State × Reply :=
  match pause.value with
  | none => (s, reply .range)
  | some b =>
    (doWhen (s.psq.pause && !b) callRound { s with psq := { s.psq with pause := b } }, reply .done)

/-- PAUSE_SEQUENCER (R44). -/
def execPauseSequencer (pause : FlagArg) (s : State) : Out :=
  serve 74 anyPayload (fun _ s => setPause pause s) s

/-- R41. -/
def removeNext (src : Source) (s : State) : State × Reply :=
  match considered s.psq src with
  | some p => (removeHolding p.slot s, doneWith (.removedSlot p.slot))
  | none => (s, reply .state)

/-- REMOVE_NEXT (R41). -/
def execRemoveNext (source : SourceArg) (s : State) : Out :=
  serve 75 anyPayload (fun _ s =>
    match source.value with
    | some src => removeNext src s
    | none => (s, reply .range)) s

/-- The slots a source holds (R42). -/
def heldBy (p : Psq) : Source → List SlotId
  | .urgent => (p.urgentBackup.toList ++ p.urgentEntry.toList).map (·.slot)
  | .queue => (p.queueBackup.toList ++ p.queue).map (·.slot)
  | .admission => pendingSlots p

/-- R42; a flush of QUEUE clears the trigger flag. -/
def flush (src : Source) (s : State) : State × Reply :=
  let t := (heldBy s.psq src).foldl (fun s i => removeHolding i s) s
  (if src = .queue then { t with psq := { t.psq with trigger := false } } else t, reply .done)

/-- FLUSH_SOURCE (R42). -/
def execFlushSource (source : SourceArg) (s : State) : Out :=
  serve 76 anyPayload (fun _ s =>
    match source.value with
    | some src => flush src s
    | none => (s, reply .range)) s

/-- The slot a source would present if a round were taken now (R45). -/
def wouldPresent (s : State) (src : Source) : Option SlotId := (candidate s 0 src).map (·.slot)

/-- READ_SEQUENCER (R45). -/
def execReadSequencer (s : State) : Out :=
  serveRead 35 anyPayload (fun _ s =>
    doneWith (.sequencer ⟨s.psq, wouldPresent s .urgent, wouldPresent s .queue, wouldPresent s .admission⟩)) s

end Sys2Proof.Machine
end

