-- ==== Sys2Proof/Machine/SlotRequests.lean ====
section
/-! DEFINITION. The services of SLC: a blade's own requests (R5, R12, R21, R22, R23) and the policy and power requests of
the primary (R10, R11, R14, R17, R19, R20). -/

namespace Sys2Proof.Machine

/-! ### Announce (R5, R150, R179) -/

/-- The work of an accepted Announce at INV, LXC, SLC and, with auto-power-on, PSQ (R5). -/
def acceptAnnounce (a : AnnounceArgs) (i : SlotId) (s : State) : State :=
  let fresh := (s.slot i).state != .standby
  let s := writeBlade i a.identity s
  let s := s.modSlot i fun r => { r with m := a.appliedFloor, c := 0, announceTimer := none }
  let s := doWhen fresh (enter i .standby) s
  doWhen (fresh && (s.slot i).autoPowerOn) (admissionAdd i) s

/-- Announce at the slot of its port (R5). -/
def announceAt (a : AnnounceArgs) (i : SlotId) (s : State) : State × Reply :=
  match (s.slot i).state with
  | .seated | .mute | .standby =>
    if a.wrong then (s, reply .range)
    else
      (acceptAnnounce a i s,
       ⟨doneOrClamped (decide (a.appliedFloor = a.floor.toNat ∧ a.appliedMaximum = a.maximum.toNat)),
        .bytes (bytes2 a.appliedFloor ++ bytes2 a.appliedMaximum)⟩)
  | _ => (s, reply .state)

/-- ANNOUNCE (R5). -/
def execAnnounce (a : AnnounceArgs) (s : State) : Out :=
  serve 1 (fun p held => held == a.bytes p) (fun p s => onOwnSlot p (announceAt a) s) s

/-! ### Request Power On, Release Power, Report Demand, Read Own Slot -/

/-- R21. -/
def requestPowerAt (i : SlotId) (s : State) : State × Reply :=
  let r := s.slot i
  match r.state with
  | .on => (s, reply .done)
  | .standby =>
    if r.latchOpen || !r.mayRequest then (s, reply .state)
    else if r.hold then (s, reply .held)
    else (admissionAdd i s, reply .accepted)
  | _ => (s, reply .state)

/-- REQUEST_POWER_ON (R21). -/
def execRequestPowerOn (s : State) : Out :=
  serve 2 anyPayload (fun p s => onOwnSlot p requestPowerAt s) s

/-- R12, with the routes of R8. -/
def releasePowerAt (i : SlotId) (s : State) : State × Reply :=
  match (s.slot i).state with
  | .on | .stopping =>
    (actOnRestore i (removePower i .standby (fun r => { r with lastStopForced := false }) false s), reply .done)
  | .precharge => (actOnRestore i (removePower i .standby id false s), reply .done)
  | .queued => (removeHolding i s, reply .done)
  | _ => (s, reply .state)

/-- RELEASE_POWER (R12). -/
def execReleasePower (s : State) : Out :=
  serve 3 anyPayload (fun p s => onOwnSlot p releasePowerAt s) s

/-- The states in which Report Demand is accepted (R22). -/
def SlotState.takesDemand : SlotState → Bool
  | .standby | .queued | .precharge | .on | .stopping => true
  | _ => false

/-- R22: m is brought into the range from the blade's floor to its maximum; a changed m of an ON slot runs a pass. A CLAMPED
answer carries the applied m, whose layout neither chapter 12 nor section 10.7 gives (log entry 4). -/
def reportDemandAt (m : Nat) (c : Byte) (i : SlotId) (s : State) : State × Reply :=
  if (s.slot i).state.takesDemand then
    let applied := clamp (s.floor i) (s.maximum i) m
    let moved := (s.slot i).state == .on && (s.slot i).m != applied
    let t := s.modSlot i fun r => { r with m := applied, c := c.toNat }
    (doWhen moved reevaluate t, doneOrClampedWith (decide (applied = m)) (.demand applied))
  else (s, reply .state)

/-- REPORT_DEMAND (R22). -/
def execReportDemand (m : Nat) (c : Byte) (s : State) : Out :=
  serve 4 anyPayload (fun p s => onOwnSlot p (reportDemandAt m c) s) s

/-- The content of a slot record as it is read (R23, R180). -/
def slotReply (s : State) (i : SlotId) : Reply := doneWith (.bytes (slotPayload i (s.slot i) (s.blade i)))

/-- READ_OWN_SLOT (R23). -/
def execReadOwnSlot (s : State) : Out :=
  serve 5 anyPayload (fun p s => onOwnSlot p (fun i s => (s, slotReply s i)) s) s

/-- READ_SLOT (R23). -/
def execReadSlot (slot : Byte) (s : State) : Out :=
  serve 32 (exactly [slot]) (fun _ s => naming 14 slot (fun i s => (s, slotReply s i)) s) s

/-! ### Power Off, Force Off, Pulse Reset, Clear Fault -/

/-- R11. -/
def powerOffAt (i : SlotId) (s : State) : State × Reply :=
  match (s.slot i).state with
  | .on => (startStop i .requested ((s.slot i).shutdownTimeout * 1000) s, reply .accepted)
  | .stopping => (s.modSlot i fun r => { r with restore := false }, reply .done)
  | .precharge => (removePower i .standby (fun r => { r with restore := false }) false s, reply .done)
  | .queued => (removeHolding i s, reply .done)
  | .standby => (s, reply .done)
  | _ => (s, reply .state)

/-- POWER_OFF (R11). -/
def execPowerOff (slot : Byte) (s : State) : Out :=
  serve 77 (exactly [slot]) (fun _ s => naming 14 slot powerOffAt s) s

/-- R14. -/
def forceOffAt (i : SlotId) (s : State) : State × Reply :=
  match (s.slot i).state with
  | .precharge | .on | .stopping =>
    (removePower i .standby (fun r => { r with lastStopForced := true, restore := false }) false s, reply .done)
  | .queued => (removeHolding i s, reply .done)
  | .standby => (s, reply .done)
  | _ => (s, reply .state)

/-- FORCE_OFF (R14). -/
def execForceOff (slot : Byte) (s : State) : Out :=
  serve 78 (exactly [slot]) (fun _ s => naming 14 slot forceOffAt s) s

/-- The pulse a Pulse Reset starts; a delay of 0 asserts the line at once (R17). -/
def startPulse (r : SlotRec) : SlotRec :=
  if r.resetDelay = 0 then { r with pulse := .asserting r.resetWidth, resetLine := true }
  else { r with pulse := .delaying r.resetDelay r.resetWidth }

/-- R17. -/
def pulseResetAt (i : SlotId) (s : State) : State × Reply :=
  match (s.slot i).state, (s.slot i).pulse with
  | .on, .idle => (s.modSlot i startPulse, reply .accepted)
  | .on, _ => (s, reply .busy)
  | _, _ => (s, reply .state)

/-- PULSE_RESET (R17). -/
def execPulseReset (slot : Byte) (s : State) : Out :=
  serve 79 (exactly [slot]) (fun _ s => naming 14 slot pulseResetAt s) s

/-- R10. -/
def clearFaultAt (i : SlotId) (s : State) : State × Reply :=
  match (s.slot i).state with
  | .faulted => (enter i .standby (s.modSlot i fun r => { r with faultCause := none }), reply .done)
  | _ => (s, reply .state)

/-- CLEAR_FAULT (R10). -/
def execClearFault (slot : Byte) (s : State) : Out :=
  serve 80 (exactly [slot]) (fun _ s => naming 14 slot clearFaultAt s) s

/-! ### Set Slot Policy, Set Slot Hold, Set Slot Zone Map -/

/-- R19; a change of tier on an ON slot runs a cap pass. -/
def setPolicyAt (p : SlotPolicyArgs) (i : SlotId) (s : State) : State × Reply :=
  match p.autoPowerOn.value, p.mayRequest.value with
  | some a, some b =>
    let moved := (s.slot i).state == .on && (s.slot i).tier != clampTier p.tier
    let t := doWhen moved reevaluate (s.modSlot i (p.apply a b))
    (t, doneOrClampedWith p.inRange (.slotPolicy (clampTier p.tier) (clamp 1 600 p.shutdownTimeout)
      (clamp 0 1000 p.resetDelay) (clamp 1 1000 p.resetWidth)))
  | _, _ => (s, reply .range)

/-- SET_SLOT_POLICY (R19). -/
def execSetSlotPolicy (slot : Byte) (p : SlotPolicyArgs) (s : State) : Out :=
  serve 65 anyPayload (fun _ s => naming 14 slot (setPolicyAt p) s) s

/-- R20. -/
def setHoldAt (hold : FlagArg) (i : SlotId) (s : State) : State × Reply :=
  match hold.value with
  | some h => (s.modSlot i fun r => { r with hold := h }, reply .done)
  | none => (s, reply .range)

/-- SET_SLOT_HOLD (R20). -/
def execSetSlotHold (slot : Byte) (hold : FlagArg) (s : State) : Out :=
  serve 66 anyPayload (fun _ s => naming 14 slot (setHoldAt hold) s) s

/-- A zone number as the map carries it; numbers above 3 are refused before it is used. -/
def zoneOfByte (b : Byte) : ZoneId := ⟨b.toNat % 4, by omega⟩

/-- Whether any of the zone numbers is above 3 (R20). -/
def mapWrong (zones : Vector Byte 14) : Bool := (indexes 14).any fun i => decide (3 < (zones.get i).toNat)

/-- Every slot's zone field is written; a change at an ON slot runs a cap pass (R20). -/
def setZoneMap (zones : Vector Byte 14) (s : State) : State × Reply :=
  if mapWrong zones then (s, reply .range)
  else
    let moved := (indexes 14).any fun i => (s.slot i).state == .on && (s.slot i).zone != zoneOfByte (zones.get i)
    let t := { s with slots := tabulate fun i => { s.slots.get i with zone := zoneOfByte (zones.get i) } }
    (doWhen moved reevaluate t, reply .done)

/-- SET_SLOT_ZONE_MAP (R20): fourteen zone numbers in slot order. -/
def execSetSlotZoneMap (zones : Vector Byte 14) (s : State) : Out :=
  serve 67 (exactly zones.toList) (fun _ s => setZoneMap zones s) s

end Sys2Proof.Machine
end

