-- ==== Sys2Proof/Machine/Dispatch.lean ====
section
/-! DEFINITION. One arm for each command: the direct call of its meaning. -/

namespace Sys2Proof.Machine

def exec (i : Instr) (s : State) : Host.Outcome State Fault Refusal :=
  match i with
  | .announce a => Sys2Proof.Machine.execAnnounce a s
  | .requestPowerOn => Sys2Proof.Machine.execRequestPowerOn s
  | .releasePower => Sys2Proof.Machine.execReleasePower s
  | .reportDemand m c => Sys2Proof.Machine.execReportDemand m c s
  | .readOwnSlot => Sys2Proof.Machine.execReadOwnSlot s
  | .selectConditions set clear => Sys2Proof.Machine.execSelectConditions set clear s
  | .fetchNotices => Sys2Proof.Machine.execFetchNotices s
  | .readChassisSummary => Sys2Proof.Machine.execReadChassisSummary s
  | .readSlot slot => Sys2Proof.Machine.execReadSlot slot s
  | .readSupply bay => Sys2Proof.Machine.execReadSupply bay s
  | .readBudget => Sys2Proof.Machine.execReadBudget s
  | .readSequencer => Sys2Proof.Machine.execReadSequencer s
  | .readZone zone => Sys2Proof.Machine.execReadZone zone s
  | .readFan bay => Sys2Proof.Machine.execReadFan bay s
  | .readSensor selector => Sys2Proof.Machine.execReadSensor selector s
  | .readLane selector => Sys2Proof.Machine.execReadLane selector s
  | .readBay selector => Sys2Proof.Machine.execReadBay selector s
  | .readInventoryRecord selector => Sys2Proof.Machine.execReadInventoryRecord selector s
  | .claimPrimacy period => Sys2Proof.Machine.execClaimPrimacy period s
  | .releasePrimacy => Sys2Proof.Machine.execReleasePrimacy s
  | .scanNow => Sys2Proof.Machine.execScanNow s
  | .setBudgetPolicy p => Sys2Proof.Machine.execSetBudgetPolicy p s
  | .setSlotPolicy slot p => Sys2Proof.Machine.execSetSlotPolicy slot p s
  | .setSlotHold slot hold => Sys2Proof.Machine.execSetSlotHold slot hold s
  | .setSlotZoneMap zones => Sys2Proof.Machine.execSetSlotZoneMap zones s
  | .powerOnNow slot notify => Sys2Proof.Machine.execPowerOnNow slot notify s
  | .queuePowerOn places => Sys2Proof.Machine.execQueuePowerOn places s
  | .stepSequence => Sys2Proof.Machine.execStepSequence s
  | .editAdmissionGroup set clear => Sys2Proof.Machine.execEditAdmissionGroup set clear s
  | .loadAdmissionGroup mode => Sys2Proof.Machine.execLoadAdmissionGroup mode s
  | .configureSequencer p => Sys2Proof.Machine.execConfigureSequencer p s
  | .pauseSequencer pause => Sys2Proof.Machine.execPauseSequencer pause s
  | .removeNext source => Sys2Proof.Machine.execRemoveNext source s
  | .flushSource source => Sys2Proof.Machine.execFlushSource source s
  | .powerOff slot => Sys2Proof.Machine.execPowerOff slot s
  | .forceOff slot => Sys2Proof.Machine.execForceOff slot s
  | .pulseReset slot => Sys2Proof.Machine.execPulseReset slot s
  | .clearFault slot => Sys2Proof.Machine.execClearFault slot s
  | .setZoneCurve zone points => Sys2Proof.Machine.execSetZoneCurve zone points s
  | .setZoneLimits zone limits => Sys2Proof.Machine.execSetZoneLimits zone limits s
  | .characteriseFan bay => Sys2Proof.Machine.execCharacteriseFan bay s
  | .stopCharacterisation => Sys2Proof.Machine.execStopCharacterisation s
  | .clearFanFault bay => Sys2Proof.Machine.execClearFanFault bay s
  | .clearThermalTrip => Sys2Proof.Machine.execClearThermalTrip s
  | .setScan source period => Sys2Proof.Machine.execSetScan source period s
  | .editChannelSet set clear => Sys2Proof.Machine.execEditChannelSet set clear s
  | .setLanePreference lane count bays => Sys2Proof.Machine.execSetLanePreference lane count bays s
  | .editLaneEnable set clear => Sys2Proof.Machine.execEditLaneEnable set clear s
  | .setFailback failback => Sys2Proof.Machine.execSetFailback failback s
  | .setLinkHold hold => Sys2Proof.Machine.execSetLinkHold hold s
  | .setMoveTime time => Sys2Proof.Machine.execSetMoveTime time s
  | .rereadIdentity record => Sys2Proof.Machine.execRereadIdentity record s
  | .loadServiceTable bank entries => Sys2Proof.Machine.execLoadServiceTable bank entries s
  | .swapServiceTable => Sys2Proof.Machine.execSwapServiceTable s
  | .setPortPriority high => Sys2Proof.Machine.execSetPortPriority high s
  | .postNotice ports => Sys2Proof.Machine.execPostNotice ports s
  | .restartController => Sys2Proof.Machine.execRestartController s
  | .requestFrame port frame => Sys2Proof.Machine.execRequestFrame port frame s
  | .overlongLengthDiscard port kind length => Sys2Proof.Machine.execOverlongLengthDiscard port kind length s
  | .interByteTimeout port => Sys2Proof.Machine.execInterByteTimeout port s
  | .take => Sys2Proof.Machine.execTake s
  | .responseSent port lines => Sys2Proof.Machine.execResponseSent port lines s
  | .primacyPeriodExpiry => Sys2Proof.Machine.execPrimacyPeriodExpiry s
  | .powerOn lines => Sys2Proof.Machine.execPowerOn lines s
  | .resetInputAsserted => Sys2Proof.Machine.execResetInputAsserted s
  | .resetInputDeasserted lines => Sys2Proof.Machine.execResetInputDeasserted lines s
  | .resetInputHeld1s lines => Sys2Proof.Machine.execResetInputHeld1s lines s
  | .presenceAsserted slot => Sys2Proof.Machine.execPresenceAsserted slot s
  | .debounceExpiry slot => Sys2Proof.Machine.execDebounceExpiry slot s
  | .announceTimerExpiry slot => Sys2Proof.Machine.execAnnounceTimerExpiry slot s
  | .surpriseExtraction slot => Sys2Proof.Machine.execSurpriseExtraction slot s
  | .latchOpens slot => Sys2Proof.Machine.execLatchOpens slot s
  | .latchCloses slot => Sys2Proof.Machine.execLatchCloses slot s
  | .overcurrentAsserted slot => Sys2Proof.Machine.execOvercurrentAsserted slot s
  | .powerGoodLost slot => Sys2Proof.Machine.execPowerGoodLost slot s
  | .stopDeadlineExpiry slot => Sys2Proof.Machine.execStopDeadlineExpiry slot s
  | .resetDelayExpiry slot => Sys2Proof.Machine.execResetDelayExpiry slot s
  | .resetWidthExpiry slot => Sys2Proof.Machine.execResetWidthExpiry slot s
  | .slcScanDelivery => Sys2Proof.Machine.execSlcScanDelivery s
  | .prechargeExpiry => Sys2Proof.Machine.execPrechargeExpiry s
  | .inrushGapExpiry => Sys2Proof.Machine.execInrushGapExpiry s
  | .syncFallingEdge => Sys2Proof.Machine.execSyncFallingEdge s
  | .supplyPresentAsserted bay => Sys2Proof.Machine.execSupplyPresentAsserted bay s
  | .supplyPresentDeasserted bay => Sys2Proof.Machine.execSupplyPresentDeasserted bay s
  | .outputGoodChange bay level => Sys2Proof.Machine.execOutputGoodChange bay level s
  | .thermalFactorReport => Sys2Proof.Machine.execThermalFactorReport s
  | .periodTimerExpiry => Sys2Proof.Machine.execPeriodTimerExpiry s
  | .channelReadEnd answer => Sys2Proof.Machine.execChannelReadEnd answer s
  | .controlStep => Sys2Proof.Machine.execControlStep s
  | .thermalTripInputAsserted => Sys2Proof.Machine.execThermalTripInputAsserted s
  | .fanStrapChange bay strap => Sys2Proof.Machine.execFanStrapChange bay strap s
  | .tachEdge bay counter => Sys2Proof.Machine.execTachEdge bay counter s
  | .tachOverflow bay => Sys2Proof.Machine.execTachOverflow bay s
  | .settleTimerExpiry => Sys2Proof.Machine.execSettleTimerExpiry s
  | .uplinkPresentAsserted bay => Sys2Proof.Machine.execUplinkPresentAsserted bay s
  | .uplinkPresentDeasserted bay => Sys2Proof.Machine.execUplinkPresentDeasserted bay s
  | .moduleFaultAsserted bay => Sys2Proof.Machine.execModuleFaultAsserted bay s
  | .linkUpAsserted bay => Sys2Proof.Machine.execLinkUpAsserted bay s
  | .linkUpDeasserted bay => Sys2Proof.Machine.execLinkUpDeasserted bay s
  | .linkHoldExpiry bay => Sys2Proof.Machine.execLinkHoldExpiry bay s
  | .moveCompletion lane => Sys2Proof.Machine.execMoveCompletion lane s
  | .identityReadEnd block => Sys2Proof.Machine.execIdentityReadEnd block s
  | .identityReadTimeout => Sys2Proof.Machine.execIdentityReadTimeout s
  | .identityHeaderReject kind serialLength => Sys2Proof.Machine.execIdentityHeaderReject kind serialLength s
  | .moduleFaultDeasserted bay => Sys2Proof.Machine.execModuleFaultDeasserted bay s
  | .thermalTripInputDeasserted => Sys2Proof.Machine.execThermalTripInputDeasserted s
  | .overcurrentDeasserted slot => Sys2Proof.Machine.execOvercurrentDeasserted slot s
  | .powerGoodAsserted slot => Sys2Proof.Machine.execPowerGoodAsserted slot s
  | .busyAnswerSent port => Sys2Proof.Machine.execBusyAnswerSent port s

end Sys2Proof.Machine
end

