-- ==== Sys2Proof/Safety.lean ====
section
/-! DEFINITION. The words claims are stated in: which block a command may change, what it may do at the links, what a slot
without power looks like, and the invariants of the controller. -/

namespace Sys2Proof.Machine

/-! ### Frames -/

/-- The parts of a state other than LNK, which `LinkEffect` speaks of. -/
inductive Part where
  | slc | psq | bdu | ssc | clc | lxc | inv | lines | free | queue
  deriving DecidableEq, Repr

/-- PSQ with the model's own round mark clear. -/
def Psq.settled (p : Psq) : Psq := { p with roundDue := false }

/-- Every part of the state but those listed, and LNK, is as it was. -/
structure Only (changed : List Part) (s t : State) : Prop where
  slc : Part.slc ∈ changed ∨ t.slots = s.slots
  psq : Part.psq ∈ changed ∨ t.psq.settled = s.psq.settled
  bdu : Part.bdu ∈ changed ∨ t.bdu = s.bdu
  ssc : Part.ssc ∈ changed ∨ t.ssc = s.ssc
  clc : Part.clc ∈ changed ∨ t.clc = s.clc
  lxc : Part.lxc ∈ changed ∨ t.lxc = s.lxc
  inv : Part.inv ∈ changed ∨ t.inv = s.inv
  lines : Part.lines ∈ changed ∨ t.lines = s.lines
  free : Part.free ∈ changed ∨ t.freeCount = s.freeCount
  queue : Part.queue ∈ changed ∨ t.pending = s.pending

/-- A raise of a condition, with the ports it is offered to. -/
abbrev Raise := Cond × BitVec 16

/-- Whether one of the raises becomes pending as bit `n` of port `p` (R173). -/
def pends (rs : List Raise) (p : Port) (r : PortRec) (n : Nat) : Bool :=
  rs.any fun c => c.1.bit == n && receives c.1 c.2 p r

/-- Whether one of the raises becomes pending on port `p`. -/
def anyPends (rs : List Raise) (p : Port) (r : PortRec) : Bool := rs.any fun c => receives c.1 c.2 p r

/-- An answer to a held request: the port, the kind echoed, and the reply. -/
abbrev Answer := Port × Byte × Reply

/-- The response of an answer at its own port, none at the others. -/
def formed (a : Option Answer) (p : Port) : List Transmission :=
  match a with
  | some (q, kind, r) => if p = q then [.response ⟨kind, r.outcome, r.payload⟩] else []
  | none => []

/-- What an event with an answer (or none) and some raises does to one port record: the request answered is no longer held
and its response is formed, and the raises are pending with the attention line asserted. Everything else of the port stands. -/
structure PortEffect (a : Option Answer) (rs : List Raise) (p : Port) (old new : PortRec) : Prop where
  state : new.state = old.state
  rx : new.rx = old.rx
  cls : new.cls = old.cls
  selected : new.selected = old.selected
  held : new.held = if a.map (·.1) = some p then none else old.held
  tx : new.tx = old.tx ++ formed a p
  pending : ∀ n < 16, new.pending.getLsbD n = (old.pending.getLsbD n || pends rs p old n)
  attention : new.attention = (old.attention || anyPends rs p old)

/-- What an event with an answer (or none) and some raises does to LNK: `PortEffect` at every port, the engine free after an
answer, and nothing else. -/
structure LinkEffect (a : Option Answer) (rs : List Raise) (s t : State) : Prop where
  ports : ∀ p, PortEffect a rs p (s.port p) (t.port p)
  rest : t.lnk = { s.lnk with ports := t.lnk.ports, engine := if a.isSome then .free else s.lnk.engine }

/-- LNK after an event that answers (or not) and raises what its rules call for, which the claim does not list. -/
def Answers (a : Option Answer) (s t : State) : Prop := ∃ rs, LinkEffect a rs s t

/-- The engine is serving a request of this kind and payload, held by port `p`. -/
def Serving (s : State) (p : Port) (kind : Byte) (payload : List Byte) : Prop :=
  s.lnk.engine = .serving p ∧ (s.port p).held = some ⟨kind, payload⟩

/-- A refusal: the answer carries the outcome and nothing, and every other part of the controller is as it was (R167). -/
def Refused (p : Port) (kind : Byte) (o : OutcomeCode) (s t : State) : Prop :=
  Only [] s t ∧ LinkEffect (some (p, kind, ⟨o, .empty⟩)) [] s t

/-! ### Slots without power -/

/-- A lane that is out of service and rests: it is on no bay and not on the wait list (R129). -/
def Resting (t : State) (l : LaneId) : Prop := (t.lane l).state = restingState (t.lane l) ∧ l ∉ t.lxc.waitList

/-- The work of R8 as it stands at a slot afterwards. -/
structure PowerRemoved (i : SlotId) (t : State) : Prop where
  mainSwitch : (t.slot i).mainSwitch = false
  cap : (t.slot i).cap = 0
  throttle : (t.slot i).throttle = false
  violations : (t.slot i).violations = 0
  pulse : (t.slot i).pulse = .idle
  resetLine : (t.slot i).resetLine = false
  stopReason : (t.slot i).stopReason = none
  deadline : (t.slot i).deadline = none
  floor : t.bdu.floors.get i = none
  shed : i ∉ t.bdu.shedSet
  laneA : Resting t (laneA i)
  laneB : Resting t (laneB i)

/-- The fields of a slot record that no budget evaluation, sequencer round or lane event writes. -/
structure SlotKept (r r' : SlotRec) : Prop where
  presence : r'.presence = r.presence
  latchOpen : r'.latchOpen = r.latchOpen
  tier : r'.tier = r.tier
  autoPowerOn : r'.autoPowerOn = r.autoPowerOn
  mayRequest : r'.mayRequest = r.mayRequest
  hold : r'.hold = r.hold
  zone : r'.zone = r.zone
  shutdownTimeout : r'.shutdownTimeout = r.shutdownTimeout
  resetDelay : r'.resetDelay = r.resetDelay
  resetWidth : r'.resetWidth = r.resetWidth
  m : r'.m = r.m
  c : r'.c = r.c
  lastStopForced : r'.lastStopForced = r.lastStopForced
  debounce : r'.debounce = r.debounce
  announceTimer : r'.announceTimer = r.announceTimer

/-- The slots other than `i` keep those fields. -/
def OthersKept (i : SlotId) (s t : State) : Prop := ∀ j, j ≠ i → SlotKept (s.slot j) (t.slot j)

/-- Every slot keeps those fields. -/
def SlotsKept (s t : State) : Prop := ∀ j, SlotKept (s.slot j) (t.slot j)

/-! ### Holdings -/

/-- A holding of PSQ names slot `i` (R28). -/
def Holds (p : Psq) (i : SlotId) : Prop :=
  p.urgentEntry.map (·.slot) = some i ∨ p.urgentBackup.map (·.slot) = some i ∨ i ∈ p.queue.map (·.slot)
    ∨ p.queueBackup.map (·.slot) = some i ∨ p.pendingSet.getLsbD i.val = true

/-- PSQ with the holdings and the trigger flag of `q`, and a round called for. -/
def Psq.withHoldings (p q : Psq) : Psq :=
  { p with
    urgentEntry := q.urgentEntry, urgentBackup := q.urgentBackup, queue := q.queue, queueBackup := q.queueBackup
    pendingSet := q.pendingSet, trigger := q.trigger, roundDue := true }

/-- The holding of slot `i` is gone, the other holdings stand, and a round is called for (R28, R37). -/
structure HoldingRemoved (i : SlotId) (p q : Psq) : Prop where
  gone : ¬ Holds q i
  others : ∀ j, j ≠ i → (Holds q j ↔ Holds p j)
  rest : q = p.withHoldings q

/-- Slot `i` is QUEUED with holding source ADMIT, its bit is in the pending set, and a round is called for (R31, R37). -/
structure Admitted (i : SlotId) (u : State) : Prop where
  state : (u.slot i).state = .queued
  source : (u.slot i).holdingSource = some .admission
  bit : u.psq.pendingSet.getLsbD i.val = true
  called : u.psq.roundDue = true

/-- The restore flag of slot `i`, as it stood in `s`, acted on in `u`: it is clear, and with auto-restore on and the latch
closed the slot has been merged into the ADMIT pending set; otherwise it stands in STANDBY (R8, R78). -/
def RestoreActedOn (i : SlotId) (s u : State) : Prop :=
  (u.slot i).restore = false ∧
    if (s.slot i).restore = true ∧ s.bdu.policy.autoRestore = true ∧ (u.slot i).latchOpen = false then Admitted i u
    else (u.slot i).state = .standby

/-- The resource after a precharge has ended by a withdrawal, a fault or an extraction: GAP with the gap configured, or FREE,
on which a round runs, where the gap is 0 ms (R8, R27). -/
def PrechargeEnded (s u : State) : Prop :=
  u.psq.resource = (if s.psq.inrushGap = 0 then .free else .gap s.psq.inrushGap)
    ∧ (s.psq.inrushGap = 0 → u.psq.roundDue = true)

/-! ### Fans -/

/-- The command of fan `b` is the one the table of R103 gives for the state it stands in. -/
structure CommandedByTable (t : State) (b : FanBay) : Prop where
  absent : (t.fan b).state = .absent → (t.fan b).command = 0
  tripped : (t.fan b).state ≠ .absent → t.clc.trip = true → (t.fan b).command = 255
  trial : ∀ c, (t.fan b).state = .characterising → t.clc.trip = false → t.clc.search = some c →
    (t.fan b).command = c.trial
  boosted : (t.fan b).state ≠ .absent → t.clc.trip = false → (t.fan b).state ≠ .characterising →
    (t.fan b).state = .failed ∨ (t.fan (partner b)).state = .failed ∨ (t.fan (partner b)).state = .characterising →
    (t.fan b).command = max (max (t.zone (zoneOfFan b)).duty (t.zone (zoneOfFan b)).limits.failoverDuty)
      (t.fan b).stallFloor
  ordinary : (t.fan b).state = .running ∨ (t.fan b).state = .slow → t.clc.trip = false →
    (t.fan (partner b)).state ≠ .failed → (t.fan (partner b)).state ≠ .characterising →
    (t.fan b).command = max (t.zone (zoneOfFan b)).duty (t.fan b).stallFloor

/-! ### Invariants -/

/-- The slot records agree with their presence and their timers: a slot is EMPTY exactly while its presence is deasserted, and
an EMPTY slot has m and c at 0 (R1, R16, R24); the debounce timer runs exactly in DETECTING and the announce timer exactly in
SEATED (R3, R4). -/
structure SlotsSound (s : State) : Prop where
  presence : ∀ i, (s.slot i).presence = true ↔ (s.slot i).state ≠ .empty
  empty : ∀ i, (s.slot i).state = .empty → (s.slot i).m = 0 ∧ (s.slot i).c = 0
  debounce : ∀ i, (s.slot i).debounce = none ↔ (s.slot i).state ≠ .detecting
  announce : ∀ i, (s.slot i).announceTimer = none ↔ (s.slot i).state ≠ .seated

/-- The notice sets of every port: what is selected and what is pending lies in the port's entitlement, and the attention line
is asserted exactly while something is pending (R173, R174, R175). -/
def NoticesSound (s : State) : Prop :=
  ∀ p, (s.port p).selected &&& ~~~(entitlement p) = 0 ∧ (s.port p).pending &&& ~~~(entitlement p) = 0
    ∧ (s.port p).attention = decide ((s.port p).pending ≠ 0)

/-- Every thermal factor is a multiple of 10 from 0 to 100, and 0 while the trip is latched (R110, R111). -/
def FactorsSound (s : State) : Prop :=
  ∀ z, (s.zone z).k % 10 = 0 ∧ (s.zone z).k ≤ 100 ∧ (s.clc.trip = true → (s.zone z).k = 0)

/-- A reading is DISABLED exactly while its channel is outside the enable set, its failure count is at most 3, and it is
STALE exactly when the count is 3 (R82). -/
def ReadingsSound (s : State) : Prop :=
  ∀ c, ((s.reading c).state = .disabled ↔ s.ssc.enable.getLsbD c = false) ∧ (s.reading c).failures ≤ 3
    ∧ ((s.reading c).state = .stale ↔ (s.reading c).failures = 3)

/-- The identity read list names each position at most once, and supply and uplink positions only, and a read is in flight
exactly while the list is not empty (R152). -/
def ReadListSound (s : State) : Prop :=
  s.inv.readList.Nodup ∧ (∀ n ∈ s.inv.readList, readable (positionOf n) = true)
    ∧ (s.inv.readLeft = none ↔ s.inv.readList = [])

/-- CLC's fan records agree with INV's: a fan's type is the one its inventory record holds, it is ABSENT exactly while the type
is 0, and never has ABSENT as its prior state; a search in flight is of a CHARACTERISING fan (R101, R102, R116, R151). -/
def FansSound (s : State) : Prop :=
  (∀ b, heldType s b = (s.fan b).type ∧ ((s.fan b).state = .absent ↔ (s.fan b).type = 0) ∧ (s.fan b).prior ≠ some .absent)
    ∧ ∀ c, s.clc.search = some c → (s.fan c.bay).state = .characterising

/-- The slots that the holdings of PSQ name, source by source (R28). -/
def heldSlots (p : Psq) : List SlotId := heldBy p .urgent ++ heldBy p .queue ++ heldBy p .admission

/-- The slot of the precharge in flight (R25). -/
def prechargingSlot (p : Psq) : Option SlotId :=
  match p.resource with
  | .precharging i _ _ _ => some i
  | _ => none

/-- PSQ and the slot records agree: no slot has two holdings, a slot is QUEUED exactly when one names it and has its source as
holding source, and no other slot has a holding source (R1, R7, R28); the precharge in flight is of the one slot in PRECHARGE,
and the backup stage it would return to is empty (R25, R40); a slot with its latch open is in none of QUEUED, PRECHARGE and ON
(R6, R28). -/
structure SequencerSound (s : State) : Prop where
  once : (heldSlots s.psq).Nodup
  queued : ∀ i src, i ∈ heldBy s.psq src ↔ (s.slot i).state = .queued ∧ (s.slot i).holdingSource = some src
  source : ∀ i, (s.slot i).holdingSource = none ↔ (s.slot i).state ≠ .queued
  precharge : ∀ i, prechargingSlot s.psq = some i ↔ (s.slot i).state = .precharge
  urgentBackup : ∀ i n left, s.psq.resource = .precharging i .urgent n left → s.psq.urgentBackup = none
  queueBackup : ∀ i n left, s.psq.resource = .precharging i .queue n left → s.psq.queueBackup = none
  latch : ∀ i, (s.slot i).latchOpen = true →
    (s.slot i).state ≠ .queued ∧ (s.slot i).state ≠ .precharge ∧ (s.slot i).state ≠ .on

/-- BDU and the slot records agree: a committed entry is present, and the main switch closed, exactly in PRECHARGE, ON and
STOPPING, and a slot without power has cap 0 (R8, R54, R55); throttle, violations and reset pulse stand in ON alone (R17, R18);
stop reason and deadline stand in STOPPING alone and the fault cause in FAULTED alone (R1); the shed set holds each slot in
STOPPING(SHED) once and no other (R71). -/
structure BudgetSound (s : State) : Prop where
  floors : ∀ i, (s.bdu.floors.get i).isSome = (s.slot i).state.powered
  switch : ∀ i, (s.slot i).mainSwitch = (s.slot i).state.powered
  cap : ∀ i, (s.slot i).state.powered = false → (s.slot i).cap = 0
  on : ∀ i, (s.slot i).state ≠ .on → (s.slot i).throttle = false ∧ (s.slot i).violations = 0
    ∧ (s.slot i).pulse = .idle ∧ (s.slot i).resetLine = false
  stop : ∀ i, ((s.slot i).stopReason = none ↔ (s.slot i).state ≠ .stopping)
    ∧ ((s.slot i).deadline = none ↔ (s.slot i).state ≠ .stopping)
  fault : ∀ i, (s.slot i).faultCause = none ↔ (s.slot i).state ≠ .faulted
  shed : ∀ i, i ∈ s.bdu.shedSet ↔ (s.slot i).state = .stopping ∧ (s.slot i).stopReason = some .shed
  shedOnce : s.bdu.shedSet.Nodup

/-- The committed floors, less those of the slots in the shed set, lie within the blade pool (R71). While the shed set is empty
this is the law of R54: the floors of the powered slots sum to no more than the pool. -/
def FloorsCovered (s : State) : Prop := uncoveredFloors s ≤ pool s

/-- Whether a lane is BOUND to bay `b`. -/
def boundTo (s : State) (b : UplinkBay) (l : LaneId) : Bool :=
  match (s.lane l).state with
  | .bound c => c == b
  | _ => false

/-- Whether a lane is MOVING to bay `b`. -/
def movingTo (s : State) (b : UplinkBay) (l : LaneId) : Bool :=
  match (s.lane l).state with
  | .moving c _ => c == b
  | _ => false

/-- The lane records, the bays' counts and the wait list agree: each bay's counts are those of its lanes, within the capacity
while it is UP and 0 in every other state, and its lanes are of its fabric (R131, R135); the wait list holds every WAITING lane
once and no other (R132); a lane in service is INCOMPATIBLE, WAITING, MOVING or BOUND, and a lane out of service is in the
resting state its fields call for (R129). -/
structure LanesSound (s : State) : Prop where
  bound : ∀ b, (s.bay b).bound = ((indexes 28).filter (boundTo s b)).length
  moving : ∀ b, (s.bay b).movingIn = ((indexes 28).filter (movingTo s b)).length
  room : ∀ b, (s.bay b).bound + (s.bay b).movingIn ≤ if (s.bay b).state = .up then (s.bay b).capacity else 0
  fabric : ∀ l b, laneBay (s.lane l) = some b → (s.bay b).fabric = (s.lane l).fabric
  waiting : ∀ l, l ∈ s.lxc.waitList ↔ (s.lane l).state = .waiting
  once : s.lxc.waitList.Nodup
  service : ∀ l, if inService s l = true then
      (s.lane l).state ≠ .none ∧ (s.lane l).state ≠ .disabled ∧ (s.lane l).state ≠ .idle
    else (s.lane l).state = restingState (s.lane l)

/-- Between commands no round of the sequencer is due (log entry 5). -/
def Settled (s : State) : Prop := s.psq.roundDue = false

end Sys2Proof.Machine
end

