-- ==== Sys2Proof/Certificates/Slice0/Obligations.lean ====
section
/-! DEFINITION. The statements for the provers: one `def Obligations.<Name> : Prop` each. "Row" is a command's name in
spec/opcode_table.json. A statement about a service speaks of a state in which the engine serves its request (`Serving`). -/

open Sys2Proof Sys2Proof.Machine

/-- The model's step (log entry 1): the manual's events are taken one at a time, each whole. The tick is the model's
choice. -/
def Obligations.StepRunsTheFrontCommand : Prop :=
  (∀ (c : Instr) (rest : List Instr) (s : State),
    step { s with pending := c :: rest } = exec c { s with pending := rest })
  ∧ ∀ s : State, s.pending = [] →
    let less := fun t : Option Nat => t.map (· - 1)
    step s = .next { s with
      slots := tabulate fun i => { s.slot i with
        deadline := less (s.slot i).deadline, debounce := less (s.slot i).debounce
        announceTimer := less (s.slot i).announceTimer
        pulse := (match (s.slot i).pulse with
          | .idle => .idle
          | .delaying left width => .delaying (left - 1) width
          | .asserting left => .asserting (left - 1)) }
      psq := { s.psq with resource := (match s.psq.resource with
        | .free => .free
        | .precharging i src n left => .precharging i src n (left - 1)
        | .gap left => .gap (left - 1)) }
      ssc := { s.ssc with
        scan := s.ssc.scan.map fun c => { c with left := c.left - 1 }, periodTimer := less s.ssc.periodTimer }
      clc := { s.clc with
        tachCounter := s.clc.tachCounter + 1000#16
        search := s.clc.search.map fun c => { c with settle := c.settle - 1 } }
      lxc := { s.lxc with
        bays := tabulate fun b => { s.bay b with hold := less (s.bay b).hold }
        lanes := tabulate fun l => { s.lane l with state := (match (s.lane l).state with
          | .moving b left => .moving b (left - 1)
          | other => other) } }
      inv := { s.inv with readLeft := less s.inv.readLeft }
      lnk := { s.lnk with
        periodLeft := less s.lnk.periodLeft, resetMeasure := s.lnk.resetMeasure.map (· + 1) } }

/-- What the cold reset leaves in an empty chassis. -/
def Obligations.ResetStateHoldsTheColdValues : Prop :=
  let s := State.reset
  (∀ i, (s.slot i).state = .empty ∧ (s.slot i).tier = 1 ∧ (s.slot i).autoPowerOn = false ∧ (s.slot i).mayRequest = true
    ∧ (s.slot i).hold = false ∧ (s.slot i).shutdownTimeout = 30 ∧ (s.slot i).resetDelay = 0
    ∧ (s.slot i).resetWidth = 100 ∧ (s.slot i).cap = 0 ∧ (s.slot i).mainSwitch = false)
  ∧ s.psq.resource = .free ∧ (∀ i, ¬ Holds s.psq i) ∧ s.psq.group = 0 ∧ s.psq.pause = false
  ∧ s.psq.urgent = ⟨true, 3, .preempt⟩ ∧ s.psq.queueSettings = ⟨true, 2, .wait⟩
  ∧ s.psq.admission = ⟨true, 1, .wait⟩ ∧ s.psq.prechargeTime = 200 ∧ s.psq.inrushGap = 100
  ∧ s.bdu.policy = ⟨.nPlus1, 95, 150, 200, true, 5⟩ ∧ s.bdu.shedSet = [] ∧ committed s = 0
  ∧ s.ssc.source = .periodic ∧ s.ssc.period = 1000 ∧ s.ssc.enable = BitVec.allOnes 20
  ∧ s.ssc.scan = some ⟨.periodic, indexes 20, indexes 20, 2⟩ ∧ (∀ c, s.reading c = ⟨.none, none, 0⟩)
  ∧ (∀ z, (s.zone z).duty = 160 ∧ (s.zone z).k = 100) ∧ (∀ b, (s.fan b).state = .absent) ∧ s.clc.trip = false
  ∧ (∀ b, (s.bay b).state = .absent) ∧ (∀ l, (s.lane l).state = .none ∧ laneBay (s.lane l) = none)
  ∧ s.lxc.linkHold = 1000 ∧ s.lxc.moveTime = 20 ∧ s.lxc.failback = false
  ∧ (∀ n, (s.record n).state = .absent) ∧ s.inv.generation = 0 ∧ s.inv.readList = []
  ∧ s.lnk.engine = .free ∧ s.lnk.holder = none ∧ s.lnk.period = 10 ∧ s.lnk.lastReset = .cold
  ∧ (∀ p, (s.port p).state = .idle ∧ (s.port p).selected = 0 ∧ (s.port p).pending = 0)
  ∧ NoticesSound s ∧ FactorsSound s ∧ ReadingsSound s ∧ ReadListSound s ∧ FansSound s ∧ Settled s
  ∧ SlotsSound s ∧ SequencerSound s ∧ BudgetSound s ∧ FloorsCovered s ∧ LanesSound s

/-- The whole-machine rule of chapter 11, over every command and every such state. -/
def Obligations.NoticesSoundKeptByEveryStep : Prop :=
  ∀ s t : State, NoticesSound s → step s = .next t → NoticesSound t

/-- The whole-machine rule of R110, over every command and every such state. -/
def Obligations.ThermalFactorsKeptByEveryStep : Prop :=
  ∀ s t : State, FactorsSound s → step s = .next t → FactorsSound t

/-- The reading table of R82, over every command and every such state. -/
def Obligations.ReadingsSoundKeptByEveryStep : Prop :=
  ∀ s t : State, ReadingsSound s → step s = .next t → ReadingsSound t

/-- The identity read list of R152, the two records of each fan, and the slot records of R1, over every command and every
such state. -/
def Obligations.RecordsSoundKeptByEveryStep : Prop :=
  (∀ s t : State, ReadListSound s → FansSound s → step s = .next t → ReadListSound t ∧ FansSound t)
  ∧ ∀ s t : State, SequencerSound s → SlotsSound s → step s = .next t → SlotsSound t

/-- Rows PRESENCE_ASSERTED, DEBOUNCE_EXPIRY, ANNOUNCE_TIMER_EXPIRY (section 1.3). Every other slot, block and line stands. -/
def Obligations.SlotPresenceAndTimers : Prop :=
  ∀ (s : State) (i : SlotId),
    (∃ t, exec (.presenceAsserted i) s = .next t ∧ Only [.slc, .lines] s t
      ∧ t.lines = { s.lines with presence := setBit s.lines.presence i true }
      ∧ if (s.slot i).state = .empty then
          t.slots = put s.slots i { s.slot i with presence := true, state := .detecting, debounce := some 100 }
            ∧ LinkEffect none [(.slotState, ownAndSupervisors i)] s t
        else t.slots = put s.slots i { s.slot i with presence := true } ∧ LinkEffect none [] s t)
    ∧ ((s.slot i).state = .detecting → (s.slot i).presence = true → (s.slot i).debounce ≠ none →
        ∃ t, exec (.debounceExpiry i) s = .next t ∧ Only [.slc] s t
          ∧ t.slots = put s.slots i { s.slot i with state := .seated, debounce := none, announceTimer := some 10000 }
          ∧ LinkEffect none [(.slotState, ownAndSupervisors i)] s t)
    ∧ ((s.slot i).state = .seated → (s.slot i).announceTimer ≠ none →
        ∃ t, exec (.announceTimerExpiry i) s = .next t ∧ Only [.slc] s t
          ∧ t.slots = put s.slots i { s.slot i with state := .mute, announceTimer := none }
          ∧ LinkEffect none [(.slotState, ownAndSupervisors i)] s t)

/-- Row SURPRISE_EXTRACTION (R16), in every state of the slot. That the rounds an event calls for run after all its work,
merged (`settle`), is the model's choice (log entry 5). -/
def Obligations.SurpriseExtractionUndoesAll : Prop :=
  ∀ (s : State) (i : SlotId),
    ((s.slot i).state = .empty →
      ∃ t, exec (.surpriseExtraction i) s = .next t ∧ Only [.slc, .lines] s t ∧ LinkEffect none [] s t
        ∧ t.slots = put s.slots i { s.slot i with presence := false })
    ∧ ((s.slot i).state ≠ .empty →
      ∃ u, exec (.surpriseExtraction i) s = .next (settle u)
        ∧ Only [.slc, .psq, .bdu, .lxc, .inv, .lines] s u ∧ Answers none s u ∧ OthersKept i s u
        ∧ u.lines = { s.lines with presence := setBit s.lines.presence i false }
        ∧ SlotKept { s.slot i with presence := false, m := 0, c := 0, debounce := none, announceTimer := none } (u.slot i)
        ∧ (u.slot i).state = .empty ∧ (u.slot i).restore = false ∧ (u.slot i).violations = 0
        ∧ (u.slot i).stopReason = none ∧ (u.slot i).deadline = none ∧ (u.slot i).holdingSource = none
        ∧ (u.slot i).faultCause = none
        ∧ u.inv = { s.inv with
            records := put s.inv.records (bladeRecord i) ⟨.absent, .none, none⟩
            generation := u.inv.generation }
        ∧ ((s.record (bladeRecord i)).state ≠ .absent → u.inv.generation = s.inv.generation + 1#16)
        ∧ (s.record (bladeRecord i) = ⟨.absent, .none, none⟩ → u.inv.generation = s.inv.generation)
        ∧ (u.lane (laneA i)).fabric = 0 ∧ (u.lane (laneB i)).fabric = 0 ∧ Resting u (laneA i) ∧ Resting u (laneB i)
        ∧ ((s.slot i).state.powered = true → PowerRemoved i u)
        ∧ ((s.slot i).state = .precharge → PrechargeEnded s u)
        ∧ ((s.slot i).state = .queued → HoldingRemoved i s.psq u.psq))

/-- Rows LATCH_OPENS and LATCH_CLOSES (R6), in every state of the slot. That the rounds an event calls for run after all
its work, merged (`settle`), is the model's choice (log entry 5). -/
def Obligations.LatchTable : Prop :=
  ∀ (s : State) (i : SlotId),
    (match (s.slot i).state with
      | .on =>
        ∃ t, exec (.latchOpens i) s = .next t ∧ Only [.slc, .lines] s t
          ∧ t.slots = put s.slots i { s.slot i with
              latchOpen := true, state := .stopping, stopReason := some .eject
              deadline := some ((s.slot i).shutdownTimeout * 1000), throttle := false, violations := 0, pulse := .idle
              resetLine := false }
          ∧ LinkEffect none [(.slotState, ownAndSupervisors i), (.shutdownAsked, ownPort i)] s t
      | .stopping =>
        ∃ t, exec (.latchOpens i) s = .next t ∧ Only [.slc, .lines] s t ∧ LinkEffect none [] s t
          ∧ t.slots = put s.slots i { s.slot i with latchOpen := true, restore := false }
      | .queued =>
        ∃ u, exec (.latchOpens i) s = .next (settle u) ∧ Only [.slc, .psq, .lines] s u
          ∧ u.slots = put s.slots i { s.slot i with latchOpen := true, state := .standby, holdingSource := none }
          ∧ HoldingRemoved i s.psq u.psq ∧ LinkEffect none [(.slotState, ownAndSupervisors i)] s u
      | .precharge =>
        ∃ u, exec (.latchOpens i) s = .next (settle u) ∧ Only [.slc, .psq, .bdu, .lxc, .lines] s u
          ∧ PowerRemoved i u ∧ PrechargeEnded s u ∧ (u.slot i).state = .standby ∧ (u.slot i).restore = false
          ∧ SlotKept { s.slot i with latchOpen := true } (u.slot i) ∧ OthersKept i s u ∧ Answers none s u
      | _ =>
        ∃ t, exec (.latchOpens i) s = .next t ∧ Only [.slc, .lines] s t ∧ LinkEffect none [] s t
          ∧ t.slots = put s.slots i { s.slot i with latchOpen := true })
    ∧ (if (s.slot i).state = .standby ∧ (s.slot i).autoPowerOn = true then
        ∃ u, exec (.latchCloses i) s = .next (settle u) ∧ Only [.slc, .psq, .lines] s u
          ∧ u.slots = put s.slots i { s.slot i with
              latchOpen := false, state := .queued, holdingSource := some .admission }
          ∧ u.psq = { s.psq with pendingSet := setBit s.psq.pendingSet i true, roundDue := true }
          ∧ LinkEffect none [(.slotState, ownAndSupervisors i)] s u
      else
        ∃ t, exec (.latchCloses i) s = .next t ∧ Only [.slc, .lines] s t ∧ LinkEffect none [] s t
          ∧ t.slots = put s.slots i { s.slot i with latchOpen := false })
    ∧ ∀ t, (exec (.latchOpens i) s = .next t → t.lines = { s.lines with latchOpen := setBit s.lines.latchOpen i true })
        ∧ (exec (.latchCloses i) s = .next t → t.lines = { s.lines with latchOpen := setBit s.lines.latchOpen i false })

/-- Rows OVERCURRENT_ASSERTED, POWER_GOOD_LOST, OVERCURRENT_DEASSERTED, POWER_GOOD_ASSERTED (R9, second part). That the
rounds an event calls for run after all its work, merged (`settle`), is the model's choice (log entry 5). -/
def Obligations.SlotFaultLines : Prop :=
  ∀ (s : State) (i : SlotId),
    ((s.slot i).state.powered = true →
      ∃ u, exec (.overcurrentAsserted i) s = .next (settle u) ∧ Only [.slc, .psq, .bdu, .lxc, .lines] s u
        ∧ u.lines = { s.lines with overcurrent := setBit s.lines.overcurrent i true }
        ∧ PowerRemoved i u ∧ (u.slot i).state = .faulted ∧ (u.slot i).faultCause = some .overcurrent
        ∧ (u.slot i).restore = false ∧ SlotKept (s.slot i) (u.slot i) ∧ OthersKept i s u ∧ Answers none s u
        ∧ ((s.slot i).state = .precharge → PrechargeEnded s u))
    ∧ ((s.slot i).state.running = true →
      ∃ u, exec (.powerGoodLost i) s = .next (settle u) ∧ Only [.slc, .psq, .bdu, .lxc, .lines] s u
        ∧ u.lines = { s.lines with powerGood := setBit s.lines.powerGood i false }
        ∧ PowerRemoved i u ∧ (u.slot i).state = .faulted ∧ (u.slot i).faultCause = some .powerGoodLost
        ∧ (u.slot i).restore = false ∧ SlotKept (s.slot i) (u.slot i) ∧ OthersKept i s u ∧ Answers none s u)
    ∧ ((s.slot i).state.powered = false →
      ∃ t, exec (.overcurrentAsserted i) s = .next t ∧ Only [.lines] s t ∧ LinkEffect none [] s t
        ∧ t.lines = { s.lines with overcurrent := setBit s.lines.overcurrent i true })
    ∧ ((s.slot i).state.running = false →
      ∃ t, exec (.powerGoodLost i) s = .next t ∧ Only [.lines] s t ∧ LinkEffect none [] s t
        ∧ t.lines = { s.lines with powerGood := setBit s.lines.powerGood i false })
    ∧ exec (.overcurrentDeasserted i) s
        = .next { s with lines := { s.lines with overcurrent := setBit s.lines.overcurrent i false } }
    ∧ exec (.powerGoodAsserted i) s
        = .next { s with lines := { s.lines with powerGood := setBit s.lines.powerGood i true } }

/-- Row POWER_OFF (R11; RANGE by R1). That the rounds an event calls for run after all its work, merged (`settle`), is the
model's choice (log entry 5). -/
def Obligations.PowerOffTable : Prop :=
  ∀ (s : State) (p : Port),
    (∀ b : Byte, 13 < b.toNat → Serving s p 77 [b] →
      ∃ t, exec (.powerOff b) s = .next t ∧ Refused p 77 .range s t)
    ∧ ∀ (i : SlotId) (b : Byte), b.toNat = i.val → Serving s p 77 [b] →
      match (s.slot i).state with
      | .on =>
        ∃ t, exec (.powerOff b) s = .next t ∧ Only [.slc] s t
          ∧ t.slots = put s.slots i { s.slot i with
              state := .stopping, stopReason := some .requested
              deadline := some ((s.slot i).shutdownTimeout * 1000), throttle := false, violations := 0, pulse := .idle
              resetLine := false }
          ∧ LinkEffect (some (p, 77, reply .accepted))
              [(.slotState, ownAndSupervisors i), (.shutdownAsked, ownPort i)] s t
      | .stopping =>
        ∃ t, exec (.powerOff b) s = .next t ∧ Only [.slc] s t
          ∧ t.slots = put s.slots i { s.slot i with restore := false }
          ∧ LinkEffect (some (p, 77, reply .done)) [] s t
      | .precharge =>
        ∃ u, exec (.powerOff b) s = .next (settle u) ∧ Only [.slc, .psq, .bdu, .lxc] s u
          ∧ PowerRemoved i u ∧ PrechargeEnded s u ∧ (u.slot i).state = .standby ∧ (u.slot i).restore = false
          ∧ SlotKept (s.slot i) (u.slot i) ∧ OthersKept i s u ∧ Answers (some (p, 77, reply .done)) s u
      | .queued =>
        ∃ u, exec (.powerOff b) s = .next (settle u) ∧ Only [.slc, .psq] s u
          ∧ u.slots = put s.slots i { s.slot i with state := .standby, holdingSource := none }
          ∧ HoldingRemoved i s.psq u.psq
          ∧ LinkEffect (some (p, 77, reply .done)) [(.slotState, ownAndSupervisors i)] s u
      | .standby =>
        ∃ t, exec (.powerOff b) s = .next t ∧ Only [] s t ∧ LinkEffect (some (p, 77, reply .done)) [] s t
      | _ => ∃ t, exec (.powerOff b) s = .next t ∧ Refused p 77 .state s t

/-- Row RELEASE_POWER (R12, with the routes of R8). That the rounds an event calls for run after all its work, merged
(`settle`), is the model's choice (log entry 5). -/
def Obligations.ReleasePowerTable : Prop :=
  ∀ (s : State) (i : SlotId) (held : List Byte), Serving s (slotPort i) 3 held →
    match (s.slot i).state with
    | .on | .stopping =>
      ∃ u, exec .releasePower s = .next (settle u) ∧ Only [.slc, .psq, .bdu, .lxc] s u
        ∧ PowerRemoved i u ∧ RestoreActedOn i s u
        ∧ SlotKept { s.slot i with lastStopForced := false } (u.slot i) ∧ OthersKept i s u
        ∧ Answers (some (slotPort i, 3, reply .done)) s u
    | .precharge =>
      ∃ u, exec .releasePower s = .next (settle u) ∧ Only [.slc, .psq, .bdu, .lxc] s u
        ∧ PowerRemoved i u ∧ RestoreActedOn i s u ∧ PrechargeEnded s u
        ∧ SlotKept (s.slot i) (u.slot i) ∧ OthersKept i s u ∧ Answers (some (slotPort i, 3, reply .done)) s u
    | .queued =>
      ∃ u, exec .releasePower s = .next (settle u) ∧ Only [.slc, .psq] s u
        ∧ u.slots = put s.slots i { s.slot i with state := .standby, holdingSource := none }
        ∧ HoldingRemoved i s.psq u.psq
        ∧ LinkEffect (some (slotPort i, 3, reply .done)) [(.slotState, ownAndSupervisors i)] s u
    | _ => ∃ t, exec .releasePower s = .next t ∧ Refused (slotPort i) 3 .state s t

/-- Rows FORCE_OFF (R14; RANGE by R1) and STOP_DEADLINE_EXPIRY (R13). That the rounds an event calls for run after all its
work, merged (`settle`), is the model's choice (log entry 5). -/
def Obligations.StopsForced : Prop :=
  (∀ (s : State) (p : Port) (b : Byte), 13 < b.toNat → Serving s p 78 [b] →
    ∃ t, exec (.forceOff b) s = .next t ∧ Refused p 78 .range s t)
  ∧ (∀ (s : State) (p : Port) (i : SlotId) (b : Byte), b.toNat = i.val → Serving s p 78 [b] →
    match (s.slot i).state with
    | .precharge | .on | .stopping =>
      ∃ u, exec (.forceOff b) s = .next (settle u) ∧ Only [.slc, .psq, .bdu, .lxc] s u
        ∧ PowerRemoved i u ∧ (u.slot i).state = .standby ∧ (u.slot i).restore = false
        ∧ SlotKept { s.slot i with lastStopForced := true } (u.slot i) ∧ OthersKept i s u
        ∧ Answers (some (p, 78, reply .done)) s u ∧ ((s.slot i).state = .precharge → PrechargeEnded s u)
    | .queued =>
      ∃ u, exec (.forceOff b) s = .next (settle u) ∧ Only [.slc, .psq] s u
        ∧ u.slots = put s.slots i { s.slot i with state := .standby, holdingSource := none }
        ∧ HoldingRemoved i s.psq u.psq
        ∧ LinkEffect (some (p, 78, reply .done)) [(.slotState, ownAndSupervisors i)] s u
    | .standby =>
      ∃ t, exec (.forceOff b) s = .next t ∧ Only [] s t ∧ LinkEffect (some (p, 78, reply .done)) [] s t
    | _ => ∃ t, exec (.forceOff b) s = .next t ∧ Refused p 78 .state s t)
  ∧ ∀ (s : State) (i : SlotId), (s.slot i).state = .stopping → (s.slot i).deadline ≠ none →
    ∃ u, exec (.stopDeadlineExpiry i) s = .next (settle u) ∧ Only [.slc, .psq, .bdu, .lxc] s u
      ∧ PowerRemoved i u ∧ RestoreActedOn i s u
      ∧ SlotKept { s.slot i with lastStopForced := true } (u.slot i) ∧ OthersKept i s u ∧ Answers none s u

/-- Rows PULSE_RESET, RESET_DELAY_EXPIRY, RESET_WIDTH_EXPIRY (R17) and CLEAR_FAULT (R10; RANGE by R1). -/
def Obligations.ResetPulseAndClearFault : Prop :=
  (∀ (s : State) (p : Port) (b : Byte), 13 < b.toNat →
    (Serving s p 79 [b] → ∃ t, exec (.pulseReset b) s = .next t ∧ Refused p 79 .range s t)
    ∧ (Serving s p 80 [b] → ∃ t, exec (.clearFault b) s = .next t ∧ Refused p 80 .range s t))
  ∧ ((∀ (s : State) (p : Port) (i : SlotId) (b : Byte), b.toNat = i.val → Serving s p 79 [b] →
    if (s.slot i).state = .on then
      if (s.slot i).pulse = .idle then
        ∃ t, exec (.pulseReset b) s = .next t ∧ Only [.slc] s t ∧ LinkEffect (some (p, 79, reply .accepted)) [] s t
          ∧ t.slots = put s.slots i (if (s.slot i).resetDelay = 0 then
              { s.slot i with pulse := .asserting (s.slot i).resetWidth, resetLine := true }
            else { s.slot i with pulse := .delaying (s.slot i).resetDelay (s.slot i).resetWidth })
      else ∃ t, exec (.pulseReset b) s = .next t ∧ Refused p 79 .busy s t
    else ∃ t, exec (.pulseReset b) s = .next t ∧ Refused p 79 .state s t)
  ∧ (∀ (s : State) (i : SlotId) (left width : Nat), (s.slot i).pulse = .delaying left width →
    ∃ t, exec (.resetDelayExpiry i) s = .next t ∧ Only [.slc] s t ∧ LinkEffect none [] s t
      ∧ t.slots = put s.slots i { s.slot i with pulse := .asserting width, resetLine := true })
  ∧ ∀ (s : State) (i : SlotId) (left : Nat), (s.slot i).pulse = .asserting left →
    ∃ t, exec (.resetWidthExpiry i) s = .next t ∧ Only [.slc] s t ∧ LinkEffect none [] s t
      ∧ t.slots = put s.slots i { s.slot i with pulse := .idle, resetLine := false })
  ∧ (∀ (s : State) (p : Port) (i : SlotId) (b : Byte), b.toNat = i.val → Serving s p 80 [b] →
    if (s.slot i).state = .faulted then
      ∃ t, exec (.clearFault b) s = .next t ∧ Only [.slc] s t
        ∧ t.slots = put s.slots i { s.slot i with state := .standby, faultCause := none }
        ∧ LinkEffect (some (p, 80, reply .done)) [(.slotState, ownAndSupervisors i)] s t
    else ∃ t, exec (.clearFault b) s = .next t ∧ Refused p 80 .state s t)

/-- Row SLC_SCAN_DELIVERY (R18; the delivery is the readings as they stood at the completion, R91). That the delivered
copy alone says whether a channel is enabled is the model's reading (log entry 20). -/
def Obligations.ThrottleJudged : Prop :=
  ∀ (s : State) (d : Vector Reading 14) (rest : List (Vector Reading 14)), s.ssc.toSlc = d :: rest →
    ∃ t, exec .slcScanDelivery s = .next t ∧ Only [.slc, .ssc] s t ∧ LinkEffect none [] s t
      ∧ t.ssc = { s.ssc with toSlc := rest }
      ∧ ∀ i : SlotId,
        (∀ v : Int, (s.slot i).state = .on → (d.get i).state = .fresh →
          (d.get i).value = some v →
          (((s.slot i).cap + (s.slot i).cap / 16 : Int) < v →
            t.slot i = { s.slot i with
              violations := min 3 ((s.slot i).violations + 1)
              throttle := (s.slot i).throttle || decide (3 ≤ (s.slot i).violations + 1) })
          ∧ (v ≤ ((s.slot i).cap : Int) → t.slot i = { s.slot i with violations := 0, throttle := false })
          ∧ (((s.slot i).cap : Int) < v → v ≤ ((s.slot i).cap + (s.slot i).cap / 16 : Int) → t.slot i = s.slot i))
        ∧ ((s.slot i).state ≠ .on ∨ (d.get i).state ≠ .fresh →
          t.slot i = s.slot i)

/-- Row ANNOUNCE (R5). The request held is the payload of section 12.2. That the rounds an event calls for run after all
its work, merged (`settle`), is the model's choice (log entry 5). -/
def Obligations.AnnounceTable : Prop :=
  ∀ (s : State) (i : SlotId) (a : AnnounceArgs), Serving s (slotPort i) 1 (a.bytes (slotPort i)) →
    let floor := min 2047 a.floor.toNat
    let maximum := min 2047 (max floor a.maximum.toNat)
    let same : Bool := decide (a.floor.toNat ≤ 2047 ∧ a.floor.toNat ≤ a.maximum.toNat ∧ a.maximum.toNat ≤ 2047)
    if (s.slot i).state = .seated ∨ (s.slot i).state = .mute ∨ (s.slot i).state = .standby then
      if a.serial = [] ∨ 16 < a.serial.length ∨ 15 < a.fabricA.toNat ∨ 15 < a.fabricB.toNat then
        ∃ t, exec (.announce a) s = .next t ∧ Refused (slotPort i) 1 .range s t
      else
        ∃ u, exec (.announce a) s = .next (settle u) ∧ Only [.slc, .psq, .lxc, .inv] s u ∧ OthersKept i s u
          ∧ Answers (some (slotPort i, 1, ⟨if same then .done else .clamped,
              .bytes (bytes2 floor ++ bytes2 maximum)⟩)) s u
          ∧ u.inv = { s.inv with
              records := put s.inv.records (bladeRecord i) ⟨.identified, .none, some (.blade
                ⟨⟨a.model, a.revision, a.serial⟩, floor, maximum, a.fabricA.toNat, a.fabricB.toNat⟩)⟩
              generation := s.inv.generation + 1#16 }
          ∧ SlotKept { s.slot i with m := floor, c := 0, announceTimer := none } (u.slot i)
          ∧ (u.lane (laneA i)).fabric = a.fabricA.toNat ∧ (u.lane (laneB i)).fabric = a.fabricB.toNat
          ∧ (if (s.slot i).state ≠ .standby ∧ (s.slot i).autoPowerOn = true ∧ (s.slot i).latchOpen = false then
              Admitted i u
            else (u.slot i).state = .standby ∧ u.psq.settled = s.psq.settled)
    else ∃ t, exec (.announce a) s = .next t ∧ Refused (slotPort i) 1 .state s t

/-- The whole-machine rule of R28 and R25, over every command and every such state. -/
def Obligations.SequencerSoundKeptByEveryStep : Prop :=
  ∀ s t : State, SequencerSound s → step s = .next t → SequencerSound t

/-- Rows REQUEST_POWER_ON (R21: the five rows of its table) and REPORT_DEMAND (R22). That the rounds an event calls for
run after all its work, merged (`settle`), is the model's choice (log entry 5). -/
def Obligations.BladePowerRequests : Prop :=
  (∀ (s : State) (i : SlotId) (held : List Byte), Serving s (slotPort i) 2 held →
    if (s.slot i).state = .on then
      ∃ t, exec .requestPowerOn s = .next t ∧ Only [] s t ∧ LinkEffect (some (slotPort i, 2, reply .done)) [] s t
    else if (s.slot i).state = .standby ∧ (s.slot i).latchOpen = false ∧ (s.slot i).mayRequest = true then
      if (s.slot i).hold = true then ∃ t, exec .requestPowerOn s = .next t ∧ Refused (slotPort i) 2 .held s t
      else
        ∃ u, exec .requestPowerOn s = .next (settle u) ∧ Only [.slc, .psq] s u
          ∧ u.slots = put s.slots i { s.slot i with state := .queued, holdingSource := some .admission }
          ∧ u.psq = { s.psq with pendingSet := setBit s.psq.pendingSet i true, roundDue := true }
          ∧ LinkEffect (some (slotPort i, 2, reply .accepted)) [(.slotState, ownAndSupervisors i)] s u
    else ∃ t, exec .requestPowerOn s = .next t ∧ Refused (slotPort i) 2 .state s t)
  ∧ (∀ (s : State) (i : SlotId) (m : Nat) (c : Byte) (held : List Byte), m < 65536 → Serving s (slotPort i) 4 held →
    let applied := max (s.floor i) (min (s.maximum i) m)
    let answered : Reply := if applied = m then reply .done else ⟨.clamped, .demand applied⟩
    let row := { s.slot i with m := applied, c := c.toNat }
    if (s.slot i).state = .standby ∨ (s.slot i).state = .queued ∨ (s.slot i).state = .precharge
        ∨ (s.slot i).state = .on ∨ (s.slot i).state = .stopping then
      if (s.slot i).state = .on ∧ (s.slot i).m ≠ applied then
        ∃ u, exec (.reportDemand m c) s = .next (settle u) ∧ Only [.slc, .psq, .bdu, .lxc] s u
          ∧ SlotKept row (u.slot i) ∧ OthersKept i s u ∧ Answers (some (slotPort i, 4, answered)) s u
          ∧ (committed s ≤ pool s → ∀ j, (s.slot j).state = .on →
              (u.slot j).cap = distributedCap { s with slots := put s.slots i row } j)
      else
        ∃ t, exec (.reportDemand m c) s = .next t ∧ Only [.slc] s t
          ∧ t.slots = put s.slots i row ∧ LinkEffect (some (slotPort i, 4, answered)) [] s t
    else ∃ t, exec (.reportDemand m c) s = .next t ∧ Refused (slotPort i) 4 .state s t)

/-- The whole-machine rules of R54, R55 and R71, over every command and every such state. -/
def Obligations.BudgetSoundKeptByEveryStep : Prop :=
  ∀ s t : State, SequencerSound s → BudgetSound s → FloorsCovered s → step s = .next t →
    BudgetSound t ∧ FloorsCovered t

/-- Rows SET_SLOT_POLICY, SET_SLOT_HOLD, SET_SLOT_ZONE_MAP (R19, R20; RANGE of a slot byte by R1). That the rounds an
event calls for run after all its work, merged (`settle`), is the model's choice (log entry 5). -/
def Obligations.SlotSettings : Prop :=
  (∀ (s : State) (p : Port) (b : Byte) (held : List Byte), 13 < b.toNat →
    (∀ a, Serving s p 65 held → ∃ t, exec (.setSlotPolicy b a) s = .next t ∧ Refused p 65 .range s t)
    ∧ ∀ h, Serving s p 66 held → ∃ t, exec (.setSlotHold b h) s = .next t ∧ Refused p 66 .range s t)
  ∧ (∀ (s : State) (p : Port) (i : SlotId) (b : Byte) (a : SlotPolicyArgs) (held : List Byte), b.toNat = i.val →
    Serving s p 65 held →
    match a.autoPowerOn, a.mayRequest with
    | .other, _ | _, .other => ∃ t, exec (.setSlotPolicy b a) s = .next t ∧ Refused p 65 .range s t
    | x, y =>
      let tier : Fin 4 := ⟨min 3 a.tier, by omega⟩
      let stop := max 1 (min 600 a.shutdownTimeout)
      let delay := min 1000 a.resetDelay
      let width := max 1 (min 1000 a.resetWidth)
      let row := { s.slot i with
        tier := tier, autoPowerOn := decide (x = .on), mayRequest := decide (y = .on), shutdownTimeout := stop
        resetDelay := delay, resetWidth := width }
      ∃ u, exec (.setSlotPolicy b a) s = .next (settle u) ∧ Only [.slc, .psq, .bdu, .lxc] s u
        ∧ SlotKept row (u.slot i) ∧ OthersKept i s u
        ∧ Answers (some (p, 65, if tier.val = a.tier ∧ stop = a.shutdownTimeout ∧ delay = a.resetDelay
              ∧ width = a.resetWidth then reply .done else ⟨.clamped, .slotPolicy tier stop delay width⟩)) s u
        ∧ ((s.slot i).state ≠ .on ∨ (s.slot i).tier = tier →
            Only [.slc] s u ∧ u.psq.roundDue = false ∧ u.slots = put s.slots i row)
        ∧ ((s.slot i).state = .on → (s.slot i).tier ≠ tier → committed s ≤ pool s → ∀ j, (s.slot j).state = .on →
            (u.slot j).cap = distributedCap { s with slots := put s.slots i row } j))
  ∧ (∀ (s : State) (p : Port) (i : SlotId) (b : Byte) (h : FlagArg) (held : List Byte), b.toNat = i.val →
    Serving s p 66 held →
    match h with
    | .other => ∃ t, exec (.setSlotHold b h) s = .next t ∧ Refused p 66 .range s t
    | _ =>
      ∃ t, exec (.setSlotHold b h) s = .next t ∧ Only [.slc] s t ∧ LinkEffect (some (p, 66, reply .done)) [] s t
        ∧ t.slots = put s.slots i { s.slot i with hold := decide (h = .on) })
  ∧ ∀ (s : State) (p : Port) (zones : Vector Byte 14), Serving s p 67 zones.toList →
    if ∃ i, 3 < (zones.get i).toNat then ∃ t, exec (.setSlotZoneMap zones) s = .next t ∧ Refused p 67 .range s t
    else
      ∃ u, exec (.setSlotZoneMap zones) s = .next (settle u) ∧ Only [.slc, .psq, .bdu, .lxc] s u
        ∧ Answers (some (p, 67, reply .done)) s u
        ∧ (∀ i, (u.slot i).zone.val = (zones.get i).toNat
            ∧ SlotKept { s.slot i with zone := (u.slot i).zone } (u.slot i))
        ∧ ((∀ i, (s.slot i).state = .on → (s.slot i).zone.val = (zones.get i).toNat) →
            Only [.slc] s u ∧ u.psq.roundDue = false ∧ ∀ i, u.slot i = { s.slot i with zone := (u.slot i).zone })
        ∧ ((∃ i, (s.slot i).state = .on ∧ (s.slot i).zone.val ≠ (zones.get i).toNat) → committed s ≤ pool s →
            ∀ j, (s.slot j).state = .on →
              (u.slot j).cap = distributedCap { s with
                slots := tabulate fun i => { s.slot i with zone := (u.slot i).zone } } j)

/-- The round of R37 with the resource PRECHARGING (R39, R40), and the fault at the closing of the switch (R7). -/
def Obligations.RoundPreemptsAndFaultsAtTheSwitch : Prop :=
  (∀ (s : State) (x : SlotId) (src : Source) (n : Bool) (left : Nat), s.psq.resource = .precharging x src n left →
    let rank : Source → Nat := fun y => match y with | .urgent => 0 | .queue => 1 | .admission => 2
    let may := fun y => y ≠ src ∧ (s.psq.settingsOf y).mode = .preempt
      ∧ (s.psq.settingsOf src).priority < (s.psq.settingsOf y).priority
    let offers := fun y => candidate s ((s.bdu.floors.get x).getD 0) y
    let t := Sys2Proof.Machine.round s
    ((∀ y, may y → offers y = none) → t = s)
    ∧ ∀ (src' : Source) (q : Place), may src' → offers src' = some q →
      (∀ y, may y → offers y ≠ none → y ≠ src' → (s.psq.settingsOf y).priority < (s.psq.settingsOf src').priority
        ∨ ((s.psq.settingsOf y).priority = (s.psq.settingsOf src').priority ∧ rank src' < rank y)) →
      SequencerSound s → s.lines.overcurrent.getLsbD q.slot = false →
      (t.slot x).state = .queued ∧ (t.slot x).holdingSource = some src ∧ PowerRemoved x t
      ∧ (t.slot x).restore = (s.slot x).restore
      ∧ (match src with
        | .urgent => t.psq.urgentBackup = some ⟨x, false, n⟩
        | .queue => t.psq.queueBackup = some ⟨x, false, n⟩
        | .admission => t.psq.pendingSet.getLsbD x = true)
      ∧ (t.slot q.slot).state = .precharge ∧ (t.slot q.slot).mainSwitch = true
      ∧ (t.slot q.slot).cap = s.floor q.slot ∧ (t.slot q.slot).holdingSource = none
      ∧ t.psq.resource = .precharging q.slot src' q.notify s.psq.prechargeTime ∧ q.slot ∉ heldSlots t.psq
      ∧ t.bdu.floors = put (put s.bdu.floors x none) q.slot (some (s.floor q.slot)) ∧ committed t ≤ pool t
      ∧ Only [.slc, .psq, .bdu, .lxc] s t ∧ SlotsKept s t ∧ Answers none s t)
  ∧ ∀ (s : State) (src : Source) (q : Place), s.psq.resource = .free → winner s = some (src, q) →
    s.lines.overcurrent.getLsbD q.slot = true →
    let t := Sys2Proof.Machine.round s
    (t.slot q.slot).state = .faulted ∧ (t.slot q.slot).faultCause = some .overcurrent ∧ (t.slot q.slot).restore = false
    ∧ PowerRemoved q.slot t ∧ PrechargeEnded s t ∧ Only [.slc, .psq, .bdu, .lxc] s t ∧ SlotsKept s t ∧ Answers none s t

/-- Rows POWER_ON_NOW (R29) and QUEUE_POWER_ON (R30). The held payload of the second has two bytes for each place (section
10.7). That the rounds an event calls for run after all its work, merged (`settle`), is the model's choice (log entry
5). -/
def Obligations.PowerOnRequests : Prop :=
  (∀ (s : State) (p : Port) (b : Byte) (n : FlagArg) (held : List Byte), Serving s p 68 held →
    (13 < b.toNat ∨ n = .other → ∃ t, exec (.powerOnNow b n) s = .next t ∧ Refused p 68 .range s t)
    ∧ ∀ i : SlotId, b.toNat = i.val → n ≠ .other →
      if (s.slot i).state ≠ .standby ∨ (s.slot i).latchOpen = true then
        ∃ t, exec (.powerOnNow b n) s = .next t ∧ Refused p 68 .state s t
      else if s.psq.urgentEntry ≠ none then ∃ t, exec (.powerOnNow b n) s = .next t ∧ Refused p 68 .full s t
      else
        ∃ u, exec (.powerOnNow b n) s = .next (settle u) ∧ Only [.slc, .psq] s u
          ∧ u.slots = put s.slots i { s.slot i with state := .queued, holdingSource := some .urgent }
          ∧ u.psq = { s.psq with urgentEntry := some ⟨i, false, decide (n = .on)⟩, roundDue := true }
          ∧ LinkEffect (some (p, 68, reply .accepted)) [(.slotState, ownAndSupervisors i)] s u)
  ∧ (∀ (s : State) (p : Port) (places : List PlaceArg) (held : List Byte),
    1 ≤ places.length → places.length ≤ 14 → held.length = 2 * places.length → Serving s p 69 held →
    let whole := (∀ q ∈ places, q.slot.toNat ≤ 13 ∧ q.waitTrigger ≠ .other ∧ q.notify ≠ .other)
      ∧ (places.map (·.slot)).Nodup
    let open_ := ∀ i : SlotId, i.val ∈ places.map (·.slot.toNat) →
      (s.slot i).state = .standby ∧ (s.slot i).latchOpen = false
    (¬ whole → ∃ t, exec (.queuePowerOn places) s = .next t ∧ Refused p 69 .range s t)
    ∧ (whole → ¬ open_ → ∃ t, exec (.queuePowerOn places) s = .next t ∧ Refused p 69 .state s t)
    ∧ (whole → open_ →
      ∃ u new, exec (.queuePowerOn places) s = .next (settle u) ∧ Only [.slc, .psq] s u
        ∧ u.psq = { s.psq with queue := s.psq.queue ++ new, roundDue := true }
        ∧ new.map (fun q : Place => (q.slot.val, q.wait, q.notify))
            = places.map (fun q => (q.slot.toNat, decide (q.waitTrigger = .on), decide (q.notify = .on)))
        ∧ (∀ i : SlotId, u.slot i = if i.val ∈ places.map (·.slot.toNat) then
            { s.slot i with state := .queued, holdingSource := some .queue } else s.slot i)
        ∧ Answers (some (p, 69, reply .accepted)) s u))

/-- Rows STEP_SEQUENCE (R35) and SYNC_FALLING_EDGE (R35, R85). That STATE is the answer also where the flag is set already
for a head behind a backup stage is the model's choice (log entry 21). That the rounds an event calls for run after
all its work, merged (`settle`), is the model's choice (log entry 5). -/
def Obligations.QueueTriggers : Prop :=
  (∀ (s : State) (p : Port) (held : List Byte), Serving s p 70 held →
    if (s.psq.queueBackup <|> s.psq.queue.head?).any (·.wait) = true then
      ∃ u, exec .stepSequence s = .next (settle u) ∧ Only [.psq] s u
        ∧ u.psq = { s.psq with trigger := true, roundDue := true } ∧ LinkEffect (some (p, 70, reply .done)) [] s u
    else ∃ t, exec .stepSequence s = .next t ∧ Refused p 70 .state s t)
  ∧ ∀ s : State,
    ∃ u, exec .syncFallingEdge s = .next (settle u) ∧ Only [.psq, .ssc] s u ∧ LinkEffect none [] s u
      ∧ u.psq = (if s.psq.triggerOnSync = true ∧ (s.psq.queueBackup <|> s.psq.queue.head?).any (·.wait) = true then
          { s.psq with trigger := true, roundDue := true } else { s.psq with roundDue := false })
      ∧ (s.ssc.source ≠ .sync → u.ssc = s.ssc)
      ∧ (s.ssc.source = .sync → s.ssc.scan ≠ none → u.ssc = { s.ssc with overrun := true })
      ∧ (s.ssc.source = .sync → s.ssc.scan = none → enabledChannels s ≠ [] →
          u.ssc = { s.ssc with scan := some ⟨.sync, enabledChannels s, enabledChannels s, 2⟩ })

/-- Shed selection (R71 to R75), the cap pass that calls it (R64), and the end of a shed (R77). That the rounds an event
calls for run after all its work, merged (`settle`), is the model's choice (log entry 5). -/
def Obligations.ShedSelectionStops : Prop :=
  (∀ s : State, let t := shedSelection s
    (uncoveredFloors s ≤ pool s → t = s)
    ∧ (pool s < uncoveredFloors s → SequencerSound s → BudgetSound s →
      let floor := fun i : SlotId => (s.bdu.floors.get i).getD 0
      let aborted := (indexes 14).filter fun i => (s.slot i).state == .precharge
      let on := nameVictims floor (pool s) (shedOrder s fun r => r.state == .on)
        (uncoveredFloors s - (aborted.map floor).sum)
      let stopping := nameVictims floor (pool s) (shedOrder s fun r => r.state == .stopping
        && (r.stopReason == some .requested || r.stopReason == some .eject)) on.2
      let timeout := s.bdu.policy.shedTimeout * 1000
      (∀ i, i ∉ aborted → t.slot i =
        if i ∈ on.1 then { s.slot i with
          state := .stopping, stopReason := some .shed, deadline := some timeout, throttle := false, violations := 0
          pulse := .idle, resetLine := false, restore := (s.slot i).restore || s.bdu.policy.autoRestore }
        else if i ∈ stopping.1 then { s.slot i with
          stopReason := some .shed, deadline := (s.slot i).deadline.map fun left => min left timeout }
        else s.slot i)
      ∧ (∀ x src n left, s.psq.resource = .precharging x src n left →
          aborted = [x] ∧ (t.slot x).state = .queued ∧ (t.slot x).holdingSource = some src ∧ PowerRemoved x t
          ∧ (t.slot x).restore = (s.slot x).restore ∧ t.psq.resource = .free ∧ t.psq.roundDue = true
          ∧ (match src with
            | .urgent => t.psq.urgentBackup = some ⟨x, false, n⟩
            | .queue => t.psq.queueBackup = some ⟨x, false, n⟩
            | .admission => t.psq.pendingSet.getLsbD x = true))
      ∧ (aborted = [] → t.psq = s.psq ∧ t.lxc = s.lxc)
      ∧ t.bdu = { s.bdu with
          floors := (tabulate fun i => if i ∈ aborted then none else s.bdu.floors.get i)
          shedSet := s.bdu.shedSet ++ on.1 ++ stopping.1 }
      ∧ FloorsCovered t ∧ Only [.slc, .psq, .bdu, .lxc] s t ∧ SlotsKept s t ∧ Answers none s t
      ∧ (∀ p : Port, (s.port p).selected.getLsbD 7 = true →
          (14 ≤ p.val ∧ aborted ++ on.1 ++ stopping.1 ≠ []) ∨ (∃ i ∈ aborted ++ on.1 ++ stopping.1, p = slotPort i) →
          (t.port p).pending.getLsbD 7 = true ∧ (t.port p).attention = true)
      ∧ ∀ i ∈ on.1 ++ stopping.1, (s.port (slotPort i)).selected.getLsbD 2 = true →
          (t.port (slotPort i)).pending.getLsbD 2 = true))
  ∧ (∀ s : State, let t := capPass s
    let chosen := if committed s ≤ pool s then s else shedSelection s
    (∀ i, t.slot i = { chosen.slot i with cap := (t.slot i).cap }
      ∧ (t.slot i).cap = match (chosen.slot i).state with
        | .on => if committed t ≤ pool t then distributedCap t i else s.floor i
        | .precharge | .stopping => s.floor i
        | _ => (chosen.slot i).cap)
    ∧ t.bdu = { chosen.bdu with lastPass := t.bdu.lastPass } ∧ t.psq = chosen.psq ∧ t.lxc = chosen.lxc ∧ t.lnk = chosen.lnk
    ∧ t.bdu.lastPass.outcome = (if committed t ≤ pool t then .distributed else .floors))
  ∧ ∀ (s : State) (i : SlotId), SequencerSound s → BudgetSound s → FloorsCovered s → i ∈ s.bdu.shedSet →
    ∃ u, exec (.stopDeadlineExpiry i) s = .next (settle u) ∧ PowerRemoved i u
      ∧ u.bdu.shedSet = s.bdu.shedSet.filter (· ≠ i)
      ∧ u.bdu.floors = put s.bdu.floors i none
      ∧ (s.bdu.shedSet = [i] → ∀ p : Port, 14 ≤ p.val ∨ p = slotPort i → (s.port p).selected.getLsbD 7 = true →
          (u.port p).pending.getLsbD 7 = true ∧ (u.port p).attention = true)

/-- Rows EDIT_ADMISSION_GROUP (R32), LOAD_ADMISSION_GROUP (R33), CONFIGURE_SEQUENCER (R43) and PAUSE_SEQUENCER (R44). That
the rounds an event calls for run after all its work, merged (`settle`), is the model's choice (log entry 5). -/
def Obligations.AdmissionGroupAndSettings : Prop :=
  ((∀ (s : State) (p : Port) (set clear : BitVec 16) (held : List Byte), Serving s p 71 held →
    if 2 ^ 14 ≤ set.toNat ∨ 2 ^ 14 ≤ clear.toNat then
      ∃ t, exec (.editAdmissionGroup set clear) s = .next t ∧ Refused p 71 .range s t
    else
      ∃ t, exec (.editAdmissionGroup set clear) s = .next t ∧ Only [.psq] s t
        ∧ t.psq.settled = { s.psq.settled with group := t.psq.group }
        ∧ (∀ n < 14, t.psq.group.getLsbD n = ((s.psq.group.getLsbD n || set.getLsbD n) && !clear.getLsbD n))
        ∧ LinkEffect (some (p, 71, ⟨.done, .bytes (bytes2 t.psq.group.toNat)⟩)) [] s t)
  ∧ ∀ (s : State) (p : Port) (mode : LoadModeArg) (held : List Byte), Serving s p 72 held →
    match mode with
    | .other => ∃ t, exec (.loadAdmissionGroup mode) s = .next t ∧ Refused p 72 .range s t
    | _ =>
      let joins := fun i : SlotId =>
        s.psq.group.getLsbD i && (s.slot i).state == .standby && !(s.slot i).latchOpen
      let drops := fun i : SlotId => mode == .replace && s.psq.pendingSet.getLsbD i && !s.psq.group.getLsbD i
      ∃ u missed, exec (.loadAdmissionGroup mode) s = .next (settle u) ∧ Only [.slc, .psq] s u
        ∧ (∀ i : SlotId, u.psq.pendingSet.getLsbD i = ((s.psq.pendingSet.getLsbD i || joins i) && !drops i))
        ∧ (∀ i : SlotId, u.slot i =
            if joins i = true then { s.slot i with state := .queued, holdingSource := some .admission }
            else if drops i = true then { s.slot i with state := .standby, holdingSource := none } else s.slot i)
        ∧ { u.psq with roundDue := true } = s.psq.withHoldings u.psq
        ∧ ((∃ i, joins i = true ∨ drops i = true) → u.psq.roundDue = true)
        ∧ (∀ i : SlotId, missed.getLsbD i =
            (s.psq.group.getLsbD i && !s.psq.pendingSet.getLsbD i && !joins i))
        ∧ Answers (some (p, 72, ⟨.done, .admissionLoad u.psq.pendingSet missed⟩)) s u)
  ∧ ((∀ (s : State) (p : Port) (a : SequencerArgs) (held : List Byte), Serving s p 73 held →
    (a.urgent.enable = .other ∨ a.urgent.mode = .other ∨ a.queue.enable = .other ∨ a.queue.mode = .other
        ∨ a.admission.enable = .other ∨ a.admission.mode = .other ∨ a.trigger = .other →
      ∃ t, exec (.configureSequencer a) s = .next t ∧ Refused p 73 .range s t)
    ∧ ∀ u q d : SourceSettings,
      (∀ x ∈ [(a.urgent, u), (a.queue, q), (a.admission, d)],
        x.1.enable.value = some x.2.enable ∧ x.1.mode.value = some x.2.mode ∧ x.2.priority.val = min 3 x.1.priority) →
      a.trigger ≠ .other →
      let pre := max 50 (min 2000 a.prechargeTime)
      let gap := min 1000 a.inrushGap
      ∃ t, exec (.configureSequencer a) s = .next (settle t) ∧ Only [.psq] s t
        ∧ t.psq = { s.psq with
            urgent := u, queueSettings := q, admission := d, triggerOnSync := decide (a.trigger = .sync)
            prechargeTime := pre, inrushGap := gap
            roundDue := decide (u ≠ s.psq.urgent ∨ q ≠ s.psq.queueSettings ∨ d ≠ s.psq.admission) }
        ∧ LinkEffect (some (p, 73, if a.urgent.priority ≤ 3 ∧ a.queue.priority ≤ 3 ∧ a.admission.priority ≤ 3
            ∧ pre = a.prechargeTime ∧ gap = a.inrushGap then reply .done
            else ⟨.clamped, .sequencerSettings u q d pre gap⟩)) [] s t)
  ∧ ∀ (s : State) (p : Port) (f : FlagArg) (held : List Byte), Serving s p 74 held →
    match f with
    | .other => ∃ t, exec (.pauseSequencer f) s = .next t ∧ Refused p 74 .range s t
    | _ =>
      ∃ u, exec (.pauseSequencer f) s = .next (settle u) ∧ Only [.psq] s u
        ∧ u.psq = { s.psq with pause := decide (f = .on), roundDue := s.psq.pause && decide (f = .off) }
        ∧ LinkEffect (some (p, 74, reply .done)) [] s u)

/-- Rows REMOVE_NEXT (R41) and FLUSH_SOURCE (R42). That the rounds an event calls for run after all its work, merged
(`settle`), is the model's choice (log entry 5). -/
def Obligations.RemoveNextAndFlush : Prop :=
  ∀ (s : State) (p : Port) (a : SourceArg) (held : List Byte),
    (Serving s p 75 held →
      (a.value = none → ∃ t, exec (.removeNext a) s = .next t ∧ Refused p 75 .range s t)
      ∧ ∀ src, a.value = some src →
        (considered s.psq src = none → ∃ t, exec (.removeNext a) s = .next t ∧ Refused p 75 .state s t)
        ∧ ∀ q, considered s.psq src = some q →
          ∃ u, exec (.removeNext a) s = .next (settle u) ∧ Only [.slc, .psq] s u
            ∧ u.slots = put s.slots q.slot { s.slot q.slot with state := .standby, holdingSource := none }
            ∧ HoldingRemoved q.slot s.psq u.psq
            ∧ LinkEffect (some (p, 75, ⟨.done, .removedSlot q.slot⟩)) [(.slotState, ownAndSupervisors q.slot)] s u)
    ∧ (Serving s p 76 held →
      (a.value = none → ∃ t, exec (.flushSource a) s = .next t ∧ Refused p 76 .range s t)
      ∧ ∀ src, a.value = some src →
        ∃ u, exec (.flushSource a) s = .next (settle u) ∧ Only [.slc, .psq] s u
          ∧ (∀ i : SlotId, u.slot i = if i ∈ heldBy s.psq src then
              { s.slot i with state := .standby, holdingSource := none } else s.slot i)
          ∧ heldBy u.psq src = [] ∧ (src = .queue → u.psq.trigger = false)
          ∧ { u.psq with roundDue := true } = s.psq.withHoldings u.psq
          ∧ (heldBy s.psq src ≠ [] → u.psq.roundDue = true)
          ∧ Answers (some (p, 76, reply .done)) s u)

/-- Rows PRECHARGE_EXPIRY (R26, R9) and INRUSH_GAP_EXPIRY (R27). That the rounds an event calls for run after all its
work, merged (`settle`), is the model's choice (log entry 5). -/
def Obligations.InrushTimersExpire : Prop :=
  (∀ (s : State) (i : SlotId) (src : Source) (n : Bool) (left : Nat),
    s.psq.resource = .precharging i src n left → (s.slot i).state = .precharge →
    ∃ u, exec .prechargeExpiry s = .next (settle u) ∧ Only [.slc, .psq, .bdu, .lxc] s u ∧ Answers none s u
      ∧ SlotKept (s.slot i) (u.slot i) ∧ OthersKept i s u ∧ PrechargeEnded s u
      ∧ (s.lines.powerGood.getLsbD i = false →
          PowerRemoved i u ∧ (u.slot i).state = .faulted ∧ (u.slot i).faultCause = some .noPowerGood
            ∧ (u.slot i).restore = false)
      ∧ (s.lines.powerGood.getLsbD i = true → committed s ≤ pool s →
          (u.slot i).state = .on
            ∧ (n = true → ∀ p : Port, 14 ≤ p.val → (s.port p).selected.getLsbD 10 = true →
                (u.port p).pending.getLsbD 10 = true ∧ (u.port p).attention = true)))
  ∧ ∀ (s : State) (left : Nat), s.psq.resource = .gap left →
    exec .inrushGapExpiry s
      = .next (settle { s with psq := { s.psq with resource := .free, roundDue := true } })

/-- The round of R37 and the start of R38, the step that every holding, release and budget event calls for. -/
def Obligations.RoundStartsWinner : Prop :=
  ∀ s : State, s.psq.resource = .free →
    (winner s = none → Sys2Proof.Machine.round s = s)
    ∧ ∀ (src : Source) (q : Place), winner s = some (src, q) → s.lines.overcurrent.getLsbD q.slot = false →
      let t := Sys2Proof.Machine.round s
      (t.slot q.slot).state = .precharge ∧ (t.slot q.slot).mainSwitch = true
      ∧ (t.slot q.slot).holdingSource = none ∧ (t.slot q.slot).cap = s.floor q.slot
      ∧ t.psq.resource = .precharging q.slot src q.notify s.psq.prechargeTime
      ∧ t.bdu.floors = put s.bdu.floors q.slot (some (s.floor q.slot)) ∧ committed t ≤ pool t
      ∧ (match src with
        | .urgent => if s.psq.urgentBackup ≠ none then t.psq.urgentBackup = none ∧ t.psq.urgentEntry = s.psq.urgentEntry
            else t.psq.urgentEntry = none
        | .queue => t.psq.trigger = false ∧
            (if s.psq.queueBackup ≠ none then t.psq.queueBackup = none ∧ t.psq.queue = s.psq.queue
              else t.psq.queue = s.psq.queue.tail)
        | .admission => t.psq.pendingSet = setBit s.psq.pendingSet q.slot false)
      ∧ Only [.slc, .psq, .bdu, .lxc] s t ∧ SlotsKept s t ∧ Answers none s t

/-- The candidates of R36, with the watts that the preemption test of R39 adds (R57), and the arbiter of R38 over them. -/
def Obligations.WinnerIsRankedFirst : Prop :=
  (∀ s : State,
    let rank : Source → Nat := fun x => match x with | .urgent => 0 | .queue => 1 | .admission => 2
    (∀ (src : Source) (q : Place), winner s = some (src, q) →
      candidate s 0 src = some q ∧ s.psq.pause = false ∧ (s.psq.settingsOf src).enable = true
      ∧ (s.floor q.slot : Int) ≤ headroom s
      ∧ ∀ (other : Source) (q' : Place), candidate s 0 other = some q' → other ≠ src →
        (s.psq.settingsOf other).priority < (s.psq.settingsOf src).priority
          ∨ ((s.psq.settingsOf other).priority = (s.psq.settingsOf src).priority ∧ rank src < rank other))
    ∧ ∀ (src : Source) (q : Place), candidate s 0 src = some q → winner s ≠ none)
  ∧ ∀ (s : State) (released : Nat) (q : Place),
    let room := fun i : SlotId => (s.floor i : Int) ≤ headroom s + released
    let presents := fun (src : Source) => s.psq.pause = false ∧ (s.psq.settingsOf src).enable = true ∧ room q.slot
    (candidate s released .urgent = some q ↔ presents .urgent
      ∧ (s.psq.urgentBackup = some q ∨ (s.psq.urgentBackup = none ∧ s.psq.urgentEntry = some q)))
    ∧ (candidate s released .queue = some q ↔ presents .queue ∧ (q.wait = true → s.psq.trigger = true)
      ∧ (s.psq.queueBackup = some q ∨ (s.psq.queueBackup = none ∧ s.psq.queue.head? = some q)))
    ∧ (candidate s released .admission = some q ↔ presents .admission ∧ q.wait = false ∧ q.notify = false
      ∧ s.psq.pendingSet.getLsbD q.slot = true ∧ ∀ j < q.slot, s.psq.pendingSet.getLsbD j = true → ¬ room j)

/-- Rows SUPPLY_PRESENT_ASSERTED, SUPPLY_PRESENT_DEASSERTED (R48) and OUTPUT_GOOD_CHANGE (R49). The budget evaluation and
the rounds that a supply change runs are other statements. That the rounds an event calls for run after all its work,
merged (`settle`), is the model's choice (log entry 5). -/
def Obligations.SupplyLinesFollowed : Prop :=
  ∀ (s : State) (b : SupplyBay),
    (if (s.supply b).state = .absent then
      s.record (supplyRecord b) = ⟨.absent, .none, none⟩ → supplyRecord b ∉ s.inv.readList →
      ∃ u, exec (.supplyPresentAsserted b) s = .next (settle u)
        ∧ Only [.slc, .psq, .bdu, .lxc, .inv, .lines] s u ∧ Answers none s u ∧ SlotsKept s u
        ∧ u.bdu.supplies = put s.bdu.supplies b
            { s.supply b with state := .unidentified, present := true, identity := .reading, rating := 0 }
        ∧ u.inv.readList = s.inv.readList ++ [supplyRecord b]
        ∧ (u.record (supplyRecord b)).state = .reading ∧ (u.record (supplyRecord b)).identity = none
        ∧ u.inv.generation = s.inv.generation + 1#16
    else
      ∃ t, exec (.supplyPresentAsserted b) s = .next t ∧ Only [.bdu, .lines] s t ∧ LinkEffect none [] s t
        ∧ t.bdu = { s.bdu with supplies := put s.bdu.supplies b { s.supply b with present := true } })
    ∧ (if (s.supply b).state = .absent then
        ∃ t, exec (.supplyPresentDeasserted b) s = .next t ∧ Only [.bdu, .lines] s t ∧ LinkEffect none [] s t
          ∧ t.bdu = { s.bdu with supplies := put s.bdu.supplies b { s.supply b with present := false } }
      else
        ∃ u, exec (.supplyPresentDeasserted b) s = .next (settle u)
          ∧ Only [.slc, .psq, .bdu, .lxc, .inv, .lines] s u ∧ Answers none s u ∧ SlotsKept s u
          ∧ u.bdu.supplies = put s.bdu.supplies b
              { s.supply b with state := .absent, present := false, identity := .absent, rating := 0 }
          ∧ u.inv.readList = s.inv.readList.filter (· ≠ supplyRecord b)
          ∧ u.record (supplyRecord b) = ⟨.absent, .none, none⟩)
    ∧ (∀ t, (exec (.supplyPresentAsserted b) s = .next t →
            t.lines = { s.lines with supplyPresent := setBit s.lines.supplyPresent b true })
        ∧ (exec (.supplyPresentDeasserted b) s = .next t →
            t.lines = { s.lines with supplyPresent := setBit s.lines.supplyPresent b false })
        ∧ ∀ level, exec (.outputGoodChange b level) s = .next t →
            t.lines = { s.lines with outputGood := setBit s.lines.outputGood b level })
    ∧ ∀ level : Bool,
      match (s.supply b).state, level with
      | .healthy, false | .failed, true =>
        ∃ u, exec (.outputGoodChange b level) s = .next (settle u)
          ∧ Only [.slc, .psq, .bdu, .lxc, .lines] s u ∧ Answers none s u ∧ SlotsKept s u
          ∧ u.bdu.supplies = put s.bdu.supplies b
              { s.supply b with state := if level = true then .healthy else .failed, outputGood := level }
      | _, _ =>
        ∃ t, exec (.outputGoodChange b level) s = .next t ∧ Only [.bdu, .lines] s t ∧ LinkEffect none [] s t
          ∧ t.bdu = { s.bdu with supplies := put s.bdu.supplies b { s.supply b with outputGood := level } }

/-- Rows SET_BUDGET_POLICY (R60) and THERMAL_FACTOR_REPORT (R63, R69). That a report waits in `Clc.reports` until this row
is the model's reading (log entry 11). That the rounds an event calls for run after all its work, merged (`settle`),
is the model's choice (log entry 5). -/
def Obligations.BudgetEvents : Prop :=
  (∀ (s : State) (p : Port) (a : BudgetArgs) (held : List Byte), Serving s p 64 held →
    (a.mode = .other ∨ a.autoRestore = .other →
      ∃ t, exec (.setBudgetPolicy a) s = .next t ∧ Refused p 64 .range s t)
    ∧ ∀ (mode : RedundancyMode) (auto : Bool), a.mode.value = some mode → a.autoRestore.value = some auto →
      let policy : BudgetPolicy := ⟨mode, max 50 (min 100 a.derate), min 1023 a.overhead, min 8191 a.threshold, auto,
        max 1 (min 60 a.shedTimeout)⟩
      ∃ u, exec (.setBudgetPolicy a) s = .next (settle u) ∧ Only [.slc, .psq, .bdu, .lxc] s u ∧ SlotsKept s u
        ∧ u.bdu.policy = policy ∧ u.bdu.supplies = s.bdu.supplies ∧ u.bdu.fanReserve = s.bdu.fanReserve
        ∧ u.bdu.uplinkReserve = s.bdu.uplinkReserve
        ∧ u.bdu.side = (if (policy.threshold : Int) ≤ headroom u then .atOrAbove else .below)
        ∧ u.bdu.redundancy = conditionOf u
        ∧ Answers (some (p, 64, if policy.derate = a.derate ∧ policy.overhead = a.overhead
            ∧ policy.threshold = a.threshold ∧ policy.shedTimeout = a.shedTimeout then reply .done
            else ⟨.clamped, .budgetPolicy policy⟩)) s u)
  ∧ ∀ (s : State), s.clc.reports ≠ 0 →
    ∃ u, exec .thermalFactorReport s = .next (settle u) ∧ Only [.slc, .psq, .bdu, .clc, .lxc] s u ∧ SlotsKept s u
      ∧ Answers none s u ∧ u.clc = { s.clc with reports := s.clc.reports - 1 }
      ∧ (committed s ≤ pool s →
          u.bdu.floors = s.bdu.floors
            ∧ ∀ i, (s.slot i).state = .on → (u.slot i).state = .on ∧ (u.slot i).cap = distributedCap s i)

/-- Steps 3 to 5 of R56 and the notice of R68, over every state and whatever the headroom was before. That a round is
called for and runs at the end of the event is the model's choice (log entry 5); that one raise of CAP_CHANGED serves
all the slots of a pass is another (log entry 15), which no notice set shows. -/
def Obligations.EvaluationRecordsSideAndCondition : Prop :=
  ∀ (before : Int) (s : State),
    let t := evaluate before s
    t.bdu.side = (if (s.bdu.policy.threshold : Int) ≤ headroom t then .atOrAbove else .below)
    ∧ t.bdu.redundancy = conditionOf s
    ∧ (before < headroom t → t.psq.roundDue = true)
    ∧ (committed s ≤ pool s → headroom t ≤ before → t.psq.roundDue = s.psq.roundDue)
    ∧ ∀ p : Port,
      let gains := fun (n : Nat) (c : Prop) =>
        (t.port p).pending.getLsbD n = true ↔
          (s.port p).pending.getLsbD n = true ∨ (c ∧ 14 ≤ p.val ∧ (s.port p).selected.getLsbD n = true)
      gains 4 (s.bdu.side = .atOrAbove ∧ t.bdu.side = .below)
      ∧ gains 5 (s.bdu.side = .below ∧ t.bdu.side = .atOrAbove)
      ∧ gains 6 (s.bdu.redundancy ≠ t.bdu.redundancy)
      ∧ ((t.port p).pending.getLsbD 1 = true ↔ (s.port p).pending.getLsbD 1 = true
        ∨ ((s.port p).selected.getLsbD 1 = true ∧ ∃ i : SlotId, (t.slot i).state.powered = true
          ∧ (t.slot i).cap ≠ (s.slot i).cap ∧ (14 ≤ p.val ∨ p = slotPort i)))

/-- R66 whole, over every state. -/
def Obligations.TierSplitSpendsTheExtra : Prop :=
  ∀ (s : State) (t : Fin 4),
    let members := (indexes 14).filter fun i => (s.slot i).state == .on && (s.slot i).tier == t
    let ask := fun i => effective s i - s.floor i
    let W := (members.map ask).sum
    let E := extraBefore s t
    let share := fun i => ask i * E / W
    let L := E - (members.map share).sum
    let takers := (members.filter fun i => s.floor i < effective s i).take L
    E < W →
      (∀ i ∈ members, distributedCap s i = s.floor i + share i + (if i ∈ takers then 1 else 0)
        ∧ distributedCap s i ≤ effective s i ∧ (effective s i = s.floor i → distributedCap s i = s.floor i))
      ∧ L < (members.filter fun i => s.floor i < effective s i).length
      ∧ (members.map (distributedCap s)).sum = (members.map s.floor).sum + E

/-- The law of R67 over the distribution of R65 and R66, with the bounds of R63. -/
def Obligations.CapsStayWithinThePool : Prop :=
  ∀ s : State, committed s ≤ pool s →
    (((indexes 14).filter fun i => (s.slot i).state == .on).map (distributedCap s)).sum + committed s
        ≤ (((indexes 14).filter fun i => (s.slot i).state == .on).map s.floor).sum + pool s
    ∧ ∀ i, (s.slot i).state = .on →
      s.floor i ≤ distributedCap s i ∧ distributedCap s i ≤ effective s i
      ∧ (s.floor i ≤ (s.slot i).m → (s.zone (s.slot i).zone).k ≤ 100 →
          effective s i ≤ (s.slot i).m
          ∧ ((s.zone (s.slot i).zone).k = 100 → effective s i = (s.slot i).m)
          ∧ ((s.zone (s.slot i).zone).k = 0 → effective s i = s.floor i))

/-- The naming of R73 and R74 (both steps use it), over every state, pool and deficit. -/
def Obligations.VictimsNamedInShedOrder : Prop :=
  (∀ (s : State) (p : SlotRec → Bool),
    (shedOrder s p).Pairwise (fun i j =>
      (s.slot i).tier < (s.slot j).tier ∨ ((s.slot i).tier = (s.slot j).tier ∧ j < i))
    ∧ ∀ i, i ∈ shedOrder s p ↔ p (s.slot i) = true)
  ∧ ∀ (floor : SlotId → Nat) (b : Nat) (l : List SlotId) (left : Nat), (l.map floor).sum ≤ left →
    let r := nameVictims floor b l left
    r.1 <+: l.filter (fun i => floor i ≠ 0) ∧ r.2 + (r.1.map floor).sum = left
    ∧ (b < r.2 → r.1 = l.filter fun i => floor i ≠ 0)
    ∧ ∀ (init : List SlotId) (v : SlotId), r.1 = init ++ [v] → b + (init.map floor).sum < left

/-- The eleven reads that have no effect of their own (Read Sensor clears the overrun flag and has its own statement),
with the thirty bytes of R180, the figures of R61 and R79 and those of R170 given one by one. That Read Budget's
redundancy condition is the one computed and the summary's the one recorded is the model's reading (log entry 22), and
that Read Budget shows the k of the zone a slot had at the last pass is its choice (log entry 26). -/
def Obligations.ReadsReturnAndChangeNothing : Prop :=
  ∀ (s : State) (p : Port),
    let reads := fun (c : Instr) (kind : Byte) (payload : List Byte) (r : Reply) => Serving s p kind payload →
      ∃ t, exec c s = .next t ∧ Only [] s t ∧ LinkEffect (some (p, kind, r)) [] s t
    (∀ i : SlotId, ∃ bytes : List Byte,
      (∀ held, p = slotPort i → reads .readOwnSlot 5 held ⟨.done, .bytes bytes⟩)
      ∧ (∀ b : Byte, b.toNat = i.val → reads (.readSlot b) 32 [b] ⟨.done, .bytes bytes⟩)
      ∧ (let r := s.slot i
        let byte := fun n => (bytes.getD n 0).toNat
        let word := fun n => byte n * 256 + byte (n + 1)
        let bits := fun n => (List.range 8).map (bytes.getD n 0).getLsbD
        bytes.length = 30 ∧ byte 0 = i.val
        ∧ byte 1 = [SlotState.empty, .detecting, .seated, .mute, .standby, .queued, .precharge, .on, .stopping,
            .faulted].idxOf r.state
        ∧ bits 2 = [r.presence, r.latchOpen, r.autoPowerOn, r.mayRequest, r.hold, r.lastStopForced, r.restore, r.throttle]
        ∧ byte 3 = r.tier.val ∧ byte 4 = r.zone.val ∧ word 5 = r.shutdownTimeout % 65536
        ∧ word 7 = r.resetDelay % 65536 ∧ word 9 = r.resetWidth % 65536 ∧ word 11 = r.m % 65536 ∧ byte 13 = r.c % 256
        ∧ word 14 = r.cap % 65536
        ∧ bits 16 = [r.holdingSource.isSome, r.stopReason.isSome, r.faultCause.isSome, (s.blade i).isSome,
            false, false, false, false]
        ∧ byte 17 = [none, some Source.urgent, some .queue, some .admission].idxOf r.holdingSource
        ∧ byte 18 = [none, some StopReason.requested, some .eject, some .shed].idxOf r.stopReason
        ∧ word 19 * 65536 + word 21 = r.deadline.getD 0 % 2 ^ 32
        ∧ byte 23 = [none, some FaultCause.noPowerGood, some .overcurrent, some .powerGoodLost].idxOf r.faultCause
        ∧ byte 24 = r.violations % 256
        ∧ byte 25 = (match r.pulse with | .idle => 0 | .delaying _ _ => 1 | .asserting _ => 2)
        ∧ word 26 = s.floor i % 65536 ∧ word 28 = s.maximum i % 65536))
    ∧ (∀ (b : Byte) (i : SupplyBay), b.toNat = i.val → reads (.readSupply b) 33 [b] ⟨.done, .supply (s.supply i)⟩)
    ∧ (∃ r : BudgetReport, (∀ held, reads .readBudget 34 held ⟨.done, .budget r⟩)
      ∧ (let rating := fun b => (s.supply b).rating
        let total := (r.healthy.map rating).sum
        let inGrid := fun low => (r.healthy.filter fun b => decide (b.val < 3) == low)
        let required : Prop := match s.bdu.policy.mode with
          | .none => True
          | .nPlus1 => 2 ≤ r.healthy.length
          | .nPlusN => inGrid true ≠ [] ∧ inGrid false ≠ []
        r.policy = s.bdu.policy ∧ r.healthy = ((indexes 6).filter fun b => (s.supply b).state == .healthy)
        ∧ (required → r.condition = .met ∧ match s.bdu.policy.mode with
            | .none => r.rawCapacity = total
            | .nPlus1 => ∃ top ∈ r.healthy, (∀ b ∈ r.healthy, rating b ≤ rating top) ∧ r.rawCapacity + rating top = total
            | .nPlusN => r.rawCapacity = min ((inGrid true).map rating).sum ((inGrid false).map rating).sum)
        ∧ (¬ required → r.condition = .lost ∧ r.rawCapacity = total))
      ∧ r.usable = r.rawCapacity * s.bdu.policy.derate / 100 ∧ r.fanReserve = s.bdu.fanReserve
      ∧ r.uplinkReserve = s.bdu.uplinkReserve ∧ r.overhead = s.bdu.policy.overhead
      ∧ r.reserve = s.bdu.fanReserve + s.bdu.uplinkReserve + s.bdu.policy.overhead ∧ r.pool = r.usable - r.reserve
      ∧ r.floors = s.bdu.floors ∧ r.committed = ((indexes 14).map fun i => (s.bdu.floors.get i).getD 0).sum
      ∧ r.headroom = (r.pool : Int) - (r.committed : Int) ∧ r.side = s.bdu.side
      ∧ r.outcome = s.bdu.lastPass.outcome ∧ r.leftover = s.bdu.lastPass.leftover
      ∧ r.caps = (((indexes 14).filter fun i => (s.slot i).state.powered).map fun i => ⟨i, (s.slot i).tier,
          s.bdu.lastPass.k.get i, if (s.slot i).state = .on then s.bdu.lastPass.e.get i else none, (s.slot i).cap⟩)
      ∧ r.shedSet = (s.bdu.shedSet.map fun i =>
          ⟨i, s.bdu.floors.get i, (s.slot i).stopReason, (s.slot i).deadline⟩)
      ∧ (r.shedInProgress = true ↔ s.bdu.shedSet ≠ []))
    ∧ (∀ held, reads .readSequencer 35 held ⟨.done, .sequencer ⟨s.psq.settled, (candidate s 0 .urgent).map (·.slot),
        (candidate s 0 .queue).map (·.slot), (candidate s 0 .admission).map (·.slot)⟩⟩)
    ∧ (∀ (b : Byte) (z : ZoneId), b.toNat = z.val → reads (.readZone b) 36 [b] ⟨.done, .zone (s.zone z) s.clc.trip⟩)
    ∧ (∀ (b : Byte) (f : FanBay), b.toNat = f.val → reads (.readFan b) 37 [b]
        ⟨.done, .fan ⟨s.fan f, fanMaxRpm (s.fan f).type * (s.fan f).command / 255,
          if (s.fan f).state = .characterising then s.clc.search else none⟩⟩)
    ∧ (∀ (b : Byte) (l : LaneId), b.toNat = l.val → reads (.readLane b) 39 [b]
        ⟨.done, .lanes ⟨[(l, s.lane l)], s.lxc.waitList, s.lxc.failback, s.lxc.moveTime⟩⟩)
    ∧ reads (.readLane 255) 39 [255] ⟨.done, .lanes ⟨(indexes 28).map fun l => (l, s.lane l), s.lxc.waitList,
        s.lxc.failback, s.lxc.moveTime⟩⟩
    ∧ (∀ (b : Byte) (y : UplinkBay), b.toNat = y.val →
        reads (.readBay b) 40 [b] ⟨.done, .bays [(y, s.bay y)] s.lxc.linkHold⟩)
    ∧ reads (.readBay 255) 40 [255] ⟨.done, .bays ((indexes 4).map fun y => (y, s.bay y)) s.lxc.linkHold⟩
    ∧ (∀ (b : Byte) (ns : List RecNo), (ns = indexes 32 ∧ b = 255) ∨ (∃ n, b.toNat = n.val ∧ ns = [n]) →
        reads (.readInventoryRecord b) 41 [b] ⟨.done, .inventory ⟨s.inv.generation, s.inv.readList,
          if s.inv.readLeft.isSome then s.inv.readList.head? else none, ns.map fun n => (n, s.record n)⟩⟩)
    ∧ (∃ r : ChassisSummary, (∀ held, reads .readChassisSummary 18 held ⟨.done, .summary r⟩)
      ∧ r.port = p ∧ r.holder = s.lnk.holder ∧ r.period = s.lnk.period ∧ r.periodLeft = s.lnk.periodLeft
      ∧ r.lastReset = s.lnk.lastReset ∧ r.selectedBank = s.lnk.selectedBank ∧ r.swapPending = s.lnk.swapPending
      ∧ r.pointer = s.lnk.pointer ∧ (∀ q, r.classes.get q = (s.port q).cls ∧ r.ports.get q = (s.port q).state)
      ∧ (∀ i, r.slots.get i = (s.slot i).state) ∧ r.generation = s.inv.generation ∧ r.redundancy = s.bdu.redundancy
      ∧ r.headroom = headroom s ∧ (r.shedInProgress = true ↔ s.bdu.shedSet ≠ []) ∧ r.trip = s.clc.trip)
    ∧ ∀ (c : Instr) (kind b : Byte),
        (c, kind) ∈ [(Instr.readSlot b, 32), (.readSupply b, 33), (.readZone b, 36), (.readFan b, 37)]
          ∨ ((c, kind) ∈ [(Instr.readLane b, 39), (.readBay b, 40), (.readInventoryRecord b, 41)] ∧ b ≠ 255) →
        (kind = 32 → 13 < b.toNat) → (kind = 33 → 5 < b.toNat) → (kind = 36 → 3 < b.toNat) → (kind = 37 → 7 < b.toNat) →
        (kind = 39 → 27 < b.toNat) → (kind = 40 → 3 < b.toNat) → (kind = 41 → 31 < b.toNat) →
        reads c kind [b] ⟨.range, .empty⟩

/-- Rows PERIOD_TIMER_EXPIRY (R84), SCAN_NOW (R86), SET_SCAN (R92), EDIT_CHANNEL_SET (R90) and READ_SENSOR (R93). -/
def Obligations.ScansScheduledAndChannelsEdited : Prop :=
  (∀ (s : State) (p : Port) (held : List Byte),
    (s.ssc.periodTimer ≠ none →
      ∃ t, exec .periodTimerExpiry s = .next t ∧ Only [.ssc] s t ∧ LinkEffect none [] s t
        ∧ t.ssc.periodTimer = some s.ssc.period
        ∧ (s.ssc.scan ≠ none → t.ssc = { s.ssc with periodTimer := some s.ssc.period, overrun := true })
        ∧ (s.ssc.scan = none → enabledChannels s ≠ [] →
            t.ssc = { s.ssc with
              periodTimer := some s.ssc.period
              scan := some ⟨.periodic, enabledChannels s, enabledChannels s, 2⟩ }))
    ∧ (Serving s p 44 held →
      (s.ssc.scan ≠ none → ∃ t, exec .scanNow s = .next t ∧ Refused p 44 .busy s t)
      ∧ (s.ssc.scan = none →
        ∃ t, exec .scanNow s = .next t ∧ Only [.ssc] s t
          ∧ LinkEffect (some (p, 44, ⟨.accepted, .scanCount s.ssc.completed⟩)) [] s t
          ∧ (enabledChannels s ≠ [] →
              t.ssc = { s.ssc with scan := some ⟨.request, enabledChannels s, enabledChannels s, 2⟩ })
          ∧ (enabledChannels s = [] → t.ssc.scan = none ∧ t.ssc.completed = s.ssc.completed + 1#16
              ∧ t.ssc.readings = s.ssc.readings)))
    ∧ ∀ (a : ScanSourceArg) (period : Nat), Serving s p 87 held →
      (a = .other → ∃ t, exec (.setScan a period) s = .next t ∧ Refused p 87 .range s t)
      ∧ ∀ src, a.value = some src →
        let kept := max 100 (min 60000 period)
        ∃ t, exec (.setScan a period) s = .next t ∧ Only [.ssc] s t
          ∧ t.ssc = { s.ssc with
              source := src, period := kept, periodTimer := if src = .periodic then some kept else none }
          ∧ LinkEffect (some (p, 87, if kept = period then reply .done else ⟨.clamped, .scanPeriod kept⟩)) [] s t)
  ∧ ((∀ (s : State) (p : Port) (set clear : BitVec 24) (held : List Byte), Serving s p 88 held →
    if 2 ^ 20 ≤ set.toNat ∨ 2 ^ 20 ≤ clear.toNat then
      ∃ t, exec (.editChannelSet set clear) s = .next t ∧ Refused p 88 .range s t
    else
      ∃ t, exec (.editChannelSet set clear) s = .next t ∧ Only [.ssc] s t
        ∧ t.ssc = { s.ssc with enable := t.ssc.enable, readings := t.ssc.readings }
        ∧ (∀ c : Channel, t.ssc.enable.getLsbD c = ((s.ssc.enable.getLsbD c || set.getLsbD c) && !clear.getLsbD c)
            ∧ t.reading c = (if s.ssc.enable.getLsbD c = t.ssc.enable.getLsbD c then s.reading c
              else if t.ssc.enable.getLsbD c = true then ⟨.none, none, 0⟩ else ⟨.disabled, none, 0⟩))
        ∧ LinkEffect (some (p, 88, ⟨.done, .bytes (BitVec.ofNat 8 (t.ssc.enable.toNat / 65536)
            :: bytes2 t.ssc.enable.toNat)⟩)) [] s t)
  ∧ ∀ (s : State) (p : Port) (b : Byte), Serving s p 38 [b] →
    (19 < b.toNat → b ≠ 255 → ∃ t, exec (.readSensor b) s = .next t ∧ Refused p 38 .range s t)
    ∧ ∀ cs : List Channel, (b = 255 ∧ cs = indexes 20) ∨ (∃ c, b.toNat = c.val ∧ cs = [c]) →
      ∃ t, exec (.readSensor b) s = .next t ∧ Only [.ssc] s t ∧ t.ssc = { s.ssc with overrun := false }
        ∧ ∃ report : SensorReport, LinkEffect (some (p, 38, ⟨.done, .sensor report⟩)) [] s t
          ∧ report.overrun = s.ssc.overrun ∧ report.completed = s.ssc.completed ∧ report.source = s.ssc.source
          ∧ report.period = s.ssc.period ∧ report.enable = s.ssc.enable
          ∧ report.readings = cs.map (fun c => (c, s.reading c))
          ∧ report.scanning = s.ssc.scan.map (fun x => (x.cause, x.todo.head?, x.todo.length - 1)))

/-- Row CHANNEL_READ_END (R89, R91). -/
def Obligations.ChannelReadJudged : Prop :=
  ∀ (s : State) (a : SensorAnswer) (scan : ScanRec) (c : Channel) (rest : List Channel),
    s.ssc.scan = some scan → scan.todo = c :: rest →
    let old := s.reading c
    ∃ t, exec (.channelReadEnd a) s = .next t ∧ Only [.ssc] s t
      ∧ (∀ d, d ≠ c → t.reading d = s.reading d)
      ∧ (old.state = .disabled → t.reading c = old)
      ∧ (old.state ≠ .disabled →
          (∀ x, a = .celsius x → c.val < 6 → t.reading c = ⟨.fresh, some (max (-40) (min 150 x)), 0⟩)
          ∧ (∀ x, a = .watts x → 6 ≤ c.val → t.reading c = ⟨.fresh, some (min x 4095 : Nat), 0⟩)
          ∧ (a = .failed → (t.reading c).value = old.value
              ∧ (old.state = .stale → t.reading c = { old with failures := 3 })
              ∧ (old.state ≠ .stale → (t.reading c).failures = old.failures + 1
                  ∧ (t.reading c).state = if 3 ≤ old.failures + 1 then .stale else old.state)))
      ∧ LinkEffect none (if ((t.reading c).state = .stale ∧ old.state ≠ .stale)
            ∨ ((t.reading c).state = .fresh ∧ old.state = .stale) then [(.sensorStale, supervisors)] else []) s t
      ∧ t.ssc.source = s.ssc.source ∧ t.ssc.period = s.ssc.period ∧ t.ssc.enable = s.ssc.enable
      ∧ t.ssc.overrun = s.ssc.overrun ∧ t.ssc.periodTimer = s.ssc.periodTimer
      ∧ (rest ≠ [] → t.ssc.scan = some { scan with todo := rest, left := 2 } ∧ t.ssc.completed = s.ssc.completed
          ∧ t.ssc.toClc = s.ssc.toClc ∧ t.ssc.toSlc = s.ssc.toSlc)
      ∧ (rest = [] → t.ssc.scan = none ∧ t.ssc.completed = s.ssc.completed + 1#16
          ∧ ∃ (forClc : Vector Reading 6) (forSlc : Vector Reading 14),
            t.ssc.toClc = s.ssc.toClc ++ [forClc] ∧ t.ssc.toSlc = s.ssc.toSlc ++ [forSlc]
            ∧ (∀ n : Fin 6, forClc.get n = t.reading ⟨n.val, by omega⟩)
            ∧ ∀ n : Fin 14, forSlc.get n = t.reading ⟨n.val + 6, by omega⟩)

/-- The whole-machine rules of R129, R131 and R132, over every command and every such state. -/
def Obligations.LanesSoundKeptByEveryStep : Prop :=
  ∀ s t : State, SequencerSound s → LanesSound s → step s = .next t → LanesSound t

/-- Row SET_ZONE_CURVE (R99), in every form. -/
def Obligations.ZoneCurveSet : Prop :=
  ∀ (s : State) (p : Port) (b : Byte) (held : List Byte) (points : Vector PointArg 4), Serving s p 81 held →
    (∀ z : ZoneId, b.toNat = z.val →
      if (∀ n, -40 ≤ (points.get n).t ∧ (points.get n).t ≤ 150 ∧ (points.get n).d ≤ 255)
          ∧ ∀ n : Fin 3, (points.get n.castSucc).t < (points.get n.succ).t
            ∧ (points.get n.castSucc).d ≤ (points.get n.succ).d then
        ∃ t, exec (.setZoneCurve b points) s = .next t ∧ Only [.clc] s t
          ∧ t.clc = { s.clc with
              zones := put s.clc.zones z { s.zone z with curve := points.map fun q => ⟨q.t, q.d⟩ } }
          ∧ LinkEffect (some (p, 81, reply .done)) [] s t
      else ∃ t, exec (.setZoneCurve b points) s = .next t ∧ Refused p 81 .range s t)
    ∧ (3 < b.toNat → ∃ t, exec (.setZoneCurve b points) s = .next t ∧ Refused p 81 .range s t)

/-- The curve of R96, over every proper curve and temperature. -/
def Obligations.CurveIsMonotoneThroughItsPoints : Prop :=
  ∀ c : Vector CurvePoint 4,
    (∀ n : Fin 3, (c.get n.castSucc).t < (c.get n.succ).t ∧ (c.get n.castSucc).d ≤ (c.get n.succ).d) →
    (∀ n, curveAt c (c.get n).t = (c.get n).d)
    ∧ (∀ t, (c.get 0).d ≤ curveAt c t ∧ curveAt c t ≤ (c.get 3).d)
    ∧ ∀ t t', t ≤ t' → curveAt c t ≤ curveAt c t'

/-- Row CONTROL_STEP (R109), the zone side: stages 1, 3, 4 and 6. That the report waits in `Clc.reports` and BDU is
untouched is the model's reading (log entry 11). -/
def Obligations.ControlStepZones : Prop :=
  ∀ (s : State) (d : Vector Reading 6) (rest : List (Vector Reading 6)), s.ssc.toClc = d :: rest →
    ∃ t, exec .controlStep s = .next t ∧ Only [.ssc, .clc] s t ∧ Answers none s t
      ∧ t.ssc = { s.ssc with toClc := rest } ∧ t.clc.captures = s.clc.captures ∧ t.clc.tachCounter = s.clc.tachCounter
      ∧ (t.clc.trip = true ↔ s.clc.trip = true ∨ ∃ (z : ZoneId) (v : Int), (d.get (exhaustIndex z)).state = .fresh
          ∧ (d.get (exhaustIndex z)).value = some v ∧ (s.zone z).limits.critical ≤ v)
      ∧ (t.clc.trip = false → t.clc.reports = s.clc.reports + if ∃ z, (t.zone z).k ≠ (s.zone z).k then 1 else 0)
      ∧ ∀ z : ZoneId,
        let old := s.zone z
        let new := t.zone z
        new.curve = old.curve ∧ new.limits = old.limits
        ∧ (∀ v, (d.get (exhaustIndex z)).state = .fresh → (d.get (exhaustIndex z)).value = some v →
            new.curveDemand = curveAt old.curve v)
        ∧ ((d.get (exhaustIndex z)).state = .stale → new.curveDemand = old.limits.staleDuty)
        ∧ ((d.get (exhaustIndex z)).state = .none ∨ (d.get (exhaustIndex z)).state = .disabled → new.curveDemand = 0)
        ∧ (∀ i, (s.slot i).state.running = true → (s.slot i).zone = z → (s.slot i).c ≤ new.bladeDemand)
        ∧ (new.bladeDemand = 0
            ∨ ∃ i, (s.slot i).state.running = true ∧ (s.slot i).zone = z ∧ (s.slot i).c = new.bladeDemand)
        ∧ (new.boosted = true ↔ ∃ (n : Fin 6) (v : Int), n.val < 2 ∧ (d.get n).state = .fresh
            ∧ (d.get n).value = some v ∧ old.limits.inletLimit ≤ v)
        ∧ new.rawDemand = min 255 (max (max new.curveDemand old.limits.floorDuty) new.bladeDemand
            + if new.boosted = true then old.limits.inletBoost else 0)
        ∧ (old.duty < new.rawDemand → new.duty = min new.rawDemand (old.duty + old.limits.riseLimit))
        ∧ (new.rawDemand < old.duty → new.duty = max new.rawDemand (old.duty - old.limits.fallLimit))
        ∧ (new.rawDemand = old.duty → new.duty = old.duty)
        ∧ (t.clc.trip = true → new.k = 0 ∧ new.saturation = 0 ∧ new.relief = 0)
        ∧ (t.clc.trip = false →
            let failing : Prop := ∃ b ∈ fansOfZone z, (t.fan b).state = .failed ∧ (s.fan b).state ≠ .failed
            let command := fun b => if failing then max (max old.duty old.limits.failoverDuty) (s.fan b).stallFloor
              else (s.fan b).command
            let saturated : Prop := new.rawDemand = 255 ∧ ∀ b ∈ fansOfZone z, (t.fan b).state = .running →
              command b = 255 ∧ (s.fan b).rpm < fanMaxRpm (s.fan b).type
            (saturated → new.relief = 0 ∧
              if old.limits.saturationSteps ≤ old.saturation + 1 then new.saturation = 0 ∧ new.k = old.k - 10
              else new.saturation = old.saturation + 1 ∧ new.k = old.k)
            ∧ (¬ saturated → new.saturation = 0 ∧
              if old.limits.reliefSteps ≤ old.relief + 1 then new.relief = 0 ∧ new.k = min 100 (old.k + 10)
              else new.relief = old.relief + 1 ∧ new.k = old.k))

/-- Row CONTROL_STEP (R109), the fan side: stages 2 and 5, with the fan of a search (R119, R121). That a fan which the
trip returns to RUNNING or SLOW is judged in the same step is the model's reading (log entry 9). -/
def Obligations.ControlStepFans : Prop :=
  ∀ (s : State) (d : Vector Reading 6) (rest : List (Vector Reading 6)), s.ssc.toClc = d :: rest → FansSound s →
    ∃ t, exec .controlStep s = .next t ∧ ∀ b : FanBay,
      let old := s.fan b
      let new := t.fan b
      let slowStep : Prop := old.rpm * 4 < fanMaxRpm old.type * old.command / 255 * 3
      CommandedByTable t b ∧ new.type = old.type ∧ new.rpm = old.rpm ∧ new.lastPeriod = old.lastPeriod
      ∧ new.stallFloor = old.stallFloor
      ∧ (old.state = .absent ∨ old.state = .failed →
          new.state = old.state ∧ new.failCount = old.failCount ∧ new.slowCount = old.slowCount)
      ∧ (old.state = .running ∨ old.state = .slow →
          (old.rpm < fanMinRpm old.type → 3 ≤ old.failCount + 1 →
            new.state = .failed ∧ new.failCount = 0 ∧ new.slowCount = 0)
          ∧ (old.rpm < fanMinRpm old.type → old.failCount + 1 < 3 →
            new.state = old.state ∧ new.failCount = old.failCount + 1 ∧ new.slowCount = old.slowCount)
          ∧ (fanMinRpm old.type ≤ old.rpm → new.failCount = 0
            ∧ ((old.state = .running ↔ slowStep) → 3 ≤ old.slowCount + 1 →
                new.slowCount = 0 ∧ new.state = if old.state = .running then .slow else .running)
            ∧ ((old.state = .running ↔ slowStep) → old.slowCount + 1 < 3 →
                new.slowCount = old.slowCount + 1 ∧ new.state = old.state)
            ∧ (¬ (old.state = .running ↔ slowStep) → new.slowCount = 0 ∧ new.state = old.state)))
      ∧ (old.state = .characterising →
          let own : Prop := ∃ c, s.clc.search = some c ∧ c.bay = b
          let latched : Prop := s.clc.trip = false ∧ t.clc.trip = true
          let lost : Prop := (t.fan (partner b)).state = .failed ∧ (s.fan (partner b)).state ≠ .failed
          (¬ latched → new.failCount = old.failCount ∧ new.slowCount = old.slowCount)
          ∧ (¬ latched → ¬ lost → new.state = .characterising ∧ new.prior = old.prior ∧ new.result = old.result
            ∧ (own → t.clc.search = s.clc.search))
          ∧ (own → latched ∨ lost → t.clc.search = none ∧ new.prior = none ∧ new.result = .aborted
            ∧ (¬ latched → ∀ st, old.prior = some st → new.state = st)))

/-- Rows THERMAL_TRIP_INPUT_ASSERTED (R111), THERMAL_TRIP_INPUT_DEASSERTED, CLEAR_THERMAL_TRIP (R112), CLEAR_FAN_FAULT
(R108). That the report of the trip waits in `Clc.reports` and BDU is untouched is the model's reading (log entry 11). -/
def Obligations.TripAndFanFaultCleared : Prop :=
  ((∀ s : State,
    exec .thermalTripInputDeasserted s = .next { s with lines := { s.lines with tripInput := false } }
    ∧ (s.clc.trip = true →
        exec .thermalTripInputAsserted s = .next { s with lines := { s.lines with tripInput := true } })
    ∧ (s.clc.trip = false →
      ∃ t, exec .thermalTripInputAsserted s = .next t ∧ Only [.clc, .lines] s t ∧ Answers none s t
        ∧ t.lines = { s.lines with tripInput := true } ∧ t.clc.trip = true ∧ t.clc.search = none
        ∧ t.clc.reports = s.clc.reports + 1
        ∧ (∀ z, t.zone z = { s.zone z with k := 0, saturation := 0, relief := 0 })
        ∧ (∀ b, CommandedByTable t b)
        ∧ ∀ p : Port, (s.port p).selected.getLsbD 9 = true →
            (t.port p).pending.getLsbD 9 = true ∧ (t.port p).attention = true))
  ∧ (∀ (s : State) (p : Port) (held : List Byte), Serving s p 86 held →
    (s.clc.trip = false →
      ∃ t, exec .clearThermalTrip s = .next t ∧ Only [] s t ∧ LinkEffect (some (p, 86, reply .done)) [] s t)
    ∧ (s.clc.trip = true →
      let cool : Prop := s.lines.tripInput = false ∧ ∀ (z : ZoneId) (v : Int),
        (s.reading (exhaustChannel z)).state = .fresh → (s.reading (exhaustChannel z)).value = some v →
        v < (s.zone z).limits.critical - 5
      (cool → ∃ t, exec .clearThermalTrip s = .next t ∧ Only [.clc] s t
        ∧ t.clc = { s.clc with trip := false, fans := t.clc.fans }
        ∧ (∀ b, CommandedByTable t b ∧ t.fan b = { s.fan b with command := (t.fan b).command })
        ∧ LinkEffect (some (p, 86, reply .done)) [(.thermalTrip, everyPort)] s t)
      ∧ (¬ cool → ∃ t, exec .clearThermalTrip s = .next t ∧ Refused p 86 .state s t)))
  ∧ ∀ (s : State) (p : Port) (b : FanBay) (n : Byte), n.toNat = b.val → Serving s p 85 [n] →
    if (s.fan b).state = .failed then
      ∃ t, exec (.clearFanFault n) s = .next t ∧ Only [.clc] s t
        ∧ t.clc = { s.clc with fans := t.clc.fans }
        ∧ t.fan b = { s.fan b with state := .running, slowCount := 0, failCount := 0, command := (t.fan b).command }
        ∧ (∀ a, a ≠ b → t.fan a = { s.fan a with command := (t.fan a).command })
        ∧ (∀ a, zoneOfFan a = zoneOfFan b → CommandedByTable t a) ∧ (∀ a, zoneOfFan a ≠ zoneOfFan b → t.fan a = s.fan a)
        ∧ LinkEffect (some (p, 85, reply .done)) [(.fanFault, supervisors)] s t
    else ∃ t, exec (.clearFanFault n) s = .next t ∧ Refused p 85 .state s t)
  ∧ ∀ (s : State) (p : Port) (n : Byte), 7 < n.toNat → Serving s p 85 [n] →
    ∃ t, exec (.clearFanFault n) s = .next t ∧ Refused p 85 .range s t

/-- Rows CHARACTERISE_FAN (R117), SETTLE_TIMER_EXPIRY (R118, R120), STOP_CHARACTERISATION (R122). -/
def Obligations.CharacterisationSearch : Prop :=
  ((∀ (s : State) (p : Port) (b : FanBay) (n : Byte), n.toNat = b.val → Serving s p 83 [n] →
    if s.clc.search ≠ none then ∃ t, exec (.characteriseFan n) s = .next t ∧ Refused p 83 .busy s t
    else if (s.fan b).state = .absent ∨ s.clc.trip = true ∨ (s.fan (partner b)).state = .absent
        ∨ (s.fan (partner b)).state = .failed then
      ∃ t, exec (.characteriseFan n) s = .next t ∧ Refused p 83 .state s t
    else
      ∃ t, exec (.characteriseFan n) s = .next t ∧ Only [.clc] s t
        ∧ t.clc = { s.clc with fans := t.clc.fans, search := some ⟨b, fanMinRpm (s.fan b).type, 7, 0, 128, 3000⟩ }
        ∧ t.fan b = { s.fan b with state := .characterising, prior := some (s.fan b).state, command := 128 }
        ∧ CommandedByTable t (partner b)
        ∧ (∀ a, a ≠ b → t.fan a = { s.fan a with command := (t.fan a).command })
        ∧ (∀ a, zoneOfFan a ≠ zoneOfFan b → t.fan a = s.fan a)
        ∧ LinkEffect (some (p, 83, reply .accepted)) [] s t)
  ∧ (∀ (s : State) (c : CharRec), s.clc.search = some c → (s.fan c.bay).state = .characterising →
    let r := if (s.fan c.bay).rpm < c.threshold then c.trial else c.r
    ∃ t, exec .settleTimerExpiry s = .next t ∧ Only [.clc] s t
      ∧ t.clc = { s.clc with fans := t.clc.fans, search := t.clc.search }
      ∧ (∀ a, a ≠ c.bay → t.fan a = { s.fan a with command := (t.fan a).command })
      ∧ (∀ a, zoneOfFan a = zoneOfFan c.bay → CommandedByTable t a)
      ∧ (c.bit ≠ 0 → ∃ low : Fin 8, low.val + 1 = c.bit.val
          ∧ t.clc.search = some { c with bit := low, r := r, trial := r + 2 ^ low.val, settle := 3000 }
          ∧ (t.fan c.bay).state = .characterising ∧ LinkEffect none [] s t)
      ∧ (c.bit = 0 → r = 255 → t.clc.search = none
          ∧ t.fan c.bay = { s.fan c.bay with
              state := .failed, result := .fail, prior := none, slowCount := 0, failCount := 0
              command := (t.fan c.bay).command }
          ∧ LinkEffect none [(.fanFault, supervisors), (.characteriseDone, supervisors)] s t)
      ∧ (c.bit = 0 → r ≠ 255 → t.clc.search = none
          ∧ t.fan c.bay = { s.fan c.bay with
              state := .running, result := .pass, prior := none, stallFloor := r + 1, slowCount := 0, failCount := 0
              command := (t.fan c.bay).command }
          ∧ LinkEffect none ((if (s.fan c.bay).prior = some .running then [] else [(.fanFault, supervisors)])
              ++ [(.characteriseDone, supervisors)]) s t))
  ∧ ∀ (s : State) (p : Port) (held : List Byte), Serving s p 84 held →
    (s.clc.search = none → ∃ t, exec .stopCharacterisation s = .next t ∧ Refused p 84 .state s t)
    ∧ ∀ (c : CharRec) (st : FanState), s.clc.search = some c → (s.fan c.bay).prior = some st →
      ∃ t, exec .stopCharacterisation s = .next t ∧ Only [.clc] s t
        ∧ t.clc = { s.clc with fans := t.clc.fans, search := none }
        ∧ t.fan c.bay = { s.fan c.bay with
            state := st, result := .aborted, prior := none, command := (t.fan c.bay).command }
        ∧ (∀ a, a ≠ c.bay → t.fan a = { s.fan a with command := (t.fan a).command })
        ∧ (∀ a, zoneOfFan a = zoneOfFan c.bay → CommandedByTable t a)
        ∧ LinkEffect (some (p, 84, ⟨.done, .abortedBay c.bay⟩)) [(.characteriseDone, supervisors)] s t)
  ∧ ∀ (s : State) (p : Port) (n : Byte), 7 < n.toNat → Serving s p 83 [n] →
    ∃ t, exec (.characteriseFan n) s = .next t ∧ Refused p 83 .range s t

/-- Rows FAN_STRAP_CHANGE (R151, R102), TACH_EDGE and TACH_OVERFLOW (R105). The counter operand is the model's (log entry
14), and the period of two equal captures is a free value (log entry 3): the statement says nothing of it but its
range. That the rounds an event calls for run after all its work, merged (`settle`), is the model's choice (log entry
5). -/
def Obligations.FanStrapsAndTachometers : Prop :=
  (∀ (s : State) (b : FanBay) (strap : Fin 4),
    (∀ t, exec (.fanStrapChange b strap) s = .next t → t.lines = { s.lines with straps := t.lines.straps }
      ∧ ∀ a, strapOf t.lines.straps a = if a = b then strap else strapOf s.lines.straps a)
    ∧ (heldType s b = strap →
      ∃ t, exec (.fanStrapChange b strap) s = .next t ∧ Only [.lines] s t ∧ LinkEffect none [] s t)
    ∧ (heldType s b ≠ strap →
      ∃ u, exec (.fanStrapChange b strap) s = .next (settle u)
        ∧ Only [.slc, .psq, .bdu, .clc, .lxc, .inv, .lines] s u ∧ Answers none s u ∧ SlotsKept s u
        ∧ u.inv = { s.inv with
            records := put s.inv.records (fanRecord b)
              (if strap = 0 then ⟨.absent, .none, none⟩ else ⟨.identified, .none, some (.fan strap)⟩)
            generation := u.inv.generation }
        ∧ (heldType s b ≠ 0 ∨ s.record (fanRecord b) = ⟨.absent, .none, none⟩ →
            u.inv.generation = s.inv.generation + 1#16)
        ∧ (u.fan b).type = strap ∧ (u.fan b).rpm = 0 ∧ (u.fan b).lastPeriod = none ∧ (u.fan b).slowCount = 0
        ∧ (u.fan b).failCount = 0 ∧ (u.fan b).prior = none ∧ u.clc.captures.get b = none
        ∧ (strap = 0 → (u.fan b).state = .absent ∧ (u.fan b).stallFloor = 0)
        ∧ (strap ≠ 0 → (u.fan b).state = .running ∧ (u.fan b).result = .none
            ∧ (u.fan b).stallFloor = fanStallFloor strap)
        ∧ (heldType s b ≠ 0 → ∀ c, s.clc.search = some c → c.bay = b ∨ c.bay = partner b → u.clc.search = none)
        ∧ (∀ a, zoneOfFan a = zoneOfFan b → CommandedByTable u a)
        ∧ (∀ a, zoneOfFan a ≠ zoneOfFan b → u.fan a = s.fan a)
        ∧ u.bdu.fanReserve
            = ((indexes 8).map fun a => if (u.fan a).state = .absent then 0 else fanTypeReserve (u.fan a).type).sum))
  ∧ (∀ (s : State) (b : FanBay) (now : BitVec 16),
    let edge := exec (.tachEdge b now) s
    ((s.fan b).state = .absent → edge = .next { s with clc := { s.clc with tachCounter := now } }
      ∧ exec (.tachOverflow b) s = .next s)
    ∧ ((s.fan b).state ≠ .absent →
      exec (.tachOverflow b) s = .next { s with clc := { s.clc with
          fans := put s.clc.fans b { s.fan b with lastPeriod := none, rpm := 0 }
          captures := put s.clc.captures b none } }
      ∧ (s.clc.captures.get b = none →
          edge = .next { s with clc := { s.clc with tachCounter := now, captures := put s.clc.captures b (some now) } })
      ∧ ∀ before, s.clc.captures.get b = some before →
        (before ≠ now → edge = .next { s with clc := { s.clc with
            tachCounter := now, captures := put s.clc.captures b (some now)
            fans := put s.clc.fans b { s.fan b with
              lastPeriod := some (now - before).toNat
              rpm := 60000000 / ((now - before).toNat * fanPulses (s.fan b).type) } } })
        ∧ (before = now → ∃ period, 1 ≤ period ∧ period ≤ 65535
            ∧ edge = .next { s with
              freeCount := s.freeCount + 1
              clc := { s.clc with
                tachCounter := now, captures := put s.clc.captures b (some now)
                fans := put s.clc.fans b { s.fan b with
                  lastPeriod := some period, rpm := 60000000 / (period * fanPulses (s.fan b).type) } } })))

/-- Placement (R130, R134, R141) and the events that place: PRECHARGE_EXPIRY (R136), LINK_UP_DEASSERTED (R138), a good
IDENTITY_READ_END of an UP or DOWN bay (R127, R139), LINK_HOLD_EXPIRY with failback (R140). That the rounds an event
calls for run after all its work, merged (`settle`), is the model's choice (log entry 5). -/
def Obligations.LanesPlaced : Prop :=
  let takes := fun (s : State) (f : Nat) (b : UplinkBay) => (s.bay b).state = .up ∧ (s.bay b).fabric = f
    ∧ (s.bay b).bound + (s.bay b).movingIn < (s.bay b).capacity
  let displaced := fun (moved : List LaneId) (s t : State) =>
    (∀ l, l ∉ moved → laneBay (s.lane l) ≠ none → t.lane l = s.lane l)
    ∧ (∀ l ∈ moved, t.lane l = { s.lane l with state := (t.lane l).state }
        ∧ match (t.lane l).state with
          | .moving b left => left = s.lxc.moveTime ∧ b ∈ (s.lane l).pref ∧ (t.bay b).state = .up
              ∧ (t.bay b).fabric = (s.lane l).fabric
          | .waiting => (∃ b ∈ (s.lane l).pref, (t.bay b).fabric = (s.lane l).fabric)
              ∧ ∀ b ∈ (s.lane l).pref, ¬ takes t (s.lane l).fabric b
          | .incompatible => ∀ b ∈ (s.lane l).pref, (t.bay b).fabric ≠ (s.lane l).fabric
          | _ => False)
    ∧ ∃ others, t.lxc.waitList = others ++ moved.filter (fun l => (t.lane l).state == .waiting)
        ∧ ∀ l ∈ others, l ∉ moved
  let on := fun (s : State) (b : UplinkBay) => (indexes 28).filter fun l => laneBay (s.lane l) == some b
  (∀ (s : State) (l : LaneId),
    let t := placeLane l s
    let becomes := fun st : LaneState => put s.lxc.lanes l { s.lane l with state := st }
    Only [.lxc] s t
    ∧ (∀ before b after, (s.lane l).pref = before ++ b :: after → takes s (s.lane l).fabric b →
        (∀ c ∈ before, ¬ takes s (s.lane l).fabric c) →
        t.lxc = { s.lxc with
          lanes := becomes (.moving b s.lxc.moveTime)
          bays := put s.lxc.bays b { s.bay b with movingIn := (s.bay b).movingIn + 1 } }
        ∧ LinkEffect none [] s t)
    ∧ ((∀ b ∈ (s.lane l).pref, ¬ takes s (s.lane l).fabric b) →
        LinkEffect none [(.laneChanged, ownAndSupervisors (laneSlot l))] s t
        ∧ if ∃ b ∈ (s.lane l).pref, (s.bay b).fabric = (s.lane l).fabric then
            t.lxc = { s.lxc with lanes := becomes .waiting, waitList := s.lxc.waitList ++ [l] }
          else t.lxc = { s.lxc with lanes := becomes .incompatible }))
  ∧ (∀ (s : State) (i : SlotId) (src : Source) (n : Bool) (left : Nat), s.psq.resource = .precharging i src n left →
      (s.slot i).state = .precharge → s.lines.powerGood.getLsbD i = true → committed s ≤ pool s →
      let ready := fun l => (s.lane l).fabric ≠ 0 ∧ (s.lane l).enable = true
      let a := if ready (laneA i) then placeLane (laneA i) s else s
      ∃ u, exec .prechargeExpiry s = .next (settle u)
        ∧ u.lxc = (if ready (laneB i) then placeLane (laneB i) a else a).lxc)
  ∧ (∀ (s : State) (b : UplinkBay), LanesSound s → (s.bay b).state = .up →
      ∃ t, exec (.linkUpDeasserted b) s = .next t ∧ (t.bay b).bound = 0 ∧ (t.bay b).movingIn = 0
        ∧ displaced (on s b) s t)
  ∧ (∀ (s : State) (b : UplinkBay) (block heard : List Byte) (x : UplinkIdentity), SequencerSound s → LanesSound s →
      BudgetSound s → (s.bay b).state = .up ∨ (s.bay b).state = .down →
      s.inv.readList.head? = some (uplinkRecord b) → s.inv.readLeft ≠ none → heardBlock block = some heard →
      judgeBlock (.uplink b) heard = (.identified, some (.uplink x)) →
      ∃ u, exec (.identityReadEnd block) s = .next (settle u)
        ∧ ((s.bay b).fabric ≠ x.fabric → displaced (on s b) s u)
        ∧ ((s.bay b).fabric = x.fabric → x.capacity < (s.bay b).capacity →
            displaced ((on s b).drop x.capacity) s u ∧ (u.bay b).capacity = x.capacity
            ∧ (u.bay b).bound + (u.bay b).movingIn ≤ x.capacity))
  ∧ ∀ (s : State) (b : UplinkBay), LanesSound s → (s.bay b).state = .down → (s.bay b).hold ≠ none →
      let prefers := fun l => ∃ y, (s.lane l).state = .bound y ∧ b ∈ (s.lane l).pref
        ∧ (s.lane l).pref.idxOf b < (s.lane l).pref.idxOf y ∧ (s.bay b).fabric = (s.lane l).fabric
      ∃ t, exec (.linkHoldExpiry b) s = .next t
        ∧ (∀ l y, (s.lane l).state = .bound y → ¬ (s.lxc.failback = true ∧ prefers l) → t.lane l = s.lane l)
        ∧ (s.lxc.failback = true → ∀ l, prefers l →
            (t.lane l).state = .moving b s.lxc.moveTime
            ∨ (t.lane l = s.lane l ∧ (t.bay b).bound + (t.bay b).movingIn = (t.bay b).capacity
                ∧ ∀ k, l < k → prefers k → t.lane k = s.lane k))

/-- Rows UPLINK_PRESENT_ASSERTED, UPLINK_PRESENT_DEASSERTED, MODULE_FAULT_ASSERTED, MODULE_FAULT_DEASSERTED (R125). That
the rounds an event calls for run after all its work, merged (`settle`), is the model's choice (log entry 5). -/
def Obligations.BayLinesFollowed : Prop :=
  ∀ (s : State) (b : UplinkBay),
    let reserves := fun u : State => ((indexes 4).map fun y => if (u.bay y).power then (u.bay y).reserve else 0).sum
    let lonely := fun (u : State) => ∀ l, laneBay (u.lane l) ≠ some b
    let fieldOnly := fun (c : Instr) (row : BayRec) => ∃ t, exec c s = .next t ∧ Only [.lxc, .lines] s t
      ∧ LinkEffect none [] s t ∧ t.lxc = { s.lxc with bays := put s.lxc.bays b row }
    (if (s.bay b).state = .absent then
      s.record (uplinkRecord b) = ⟨.absent, .none, none⟩ → uplinkRecord b ∉ s.inv.readList →
      ∃ t, exec (.uplinkPresentAsserted b) s = .next t ∧ Only [.lxc, .inv, .lines] s t
        ∧ LinkEffect none [(.inventory, supervisors)] s t
        ∧ t.lxc = { s.lxc with bays := put s.lxc.bays b { s.bay b with present := true, state := .identifying } }
        ∧ t.inv.readList = s.inv.readList ++ [uplinkRecord b] ∧ t.inv.generation = s.inv.generation + 1#16
        ∧ (t.record (uplinkRecord b)).state = .reading
    else fieldOnly (.uplinkPresentAsserted b) { s.bay b with present := true })
    ∧ (if (s.bay b).state = .absent then fieldOnly (.uplinkPresentDeasserted b) { s.bay b with present := false }
      else
        ∃ u, exec (.uplinkPresentDeasserted b) s = .next (settle u)
          ∧ Only [.slc, .psq, .bdu, .lxc, .inv, .lines] s u ∧ Answers none s u ∧ SlotsKept s u
          ∧ u.bay b = { s.bay b with
              state := .absent, present := false, power := false, fabric := 0, capacity := 0, reserve := 0, hold := none
              bound := (u.bay b).bound, movingIn := (u.bay b).movingIn }
          ∧ ((s.bay b).state = .up ∨ lonely s → lonely u) ∧ u.bdu.uplinkReserve = reserves u
          ∧ u.inv.readList = s.inv.readList.filter (· ≠ uplinkRecord b)
          ∧ u.record (uplinkRecord b) = ⟨.absent, .none, none⟩)
    ∧ (if (s.bay b).state = .absent ∨ (s.bay b).state = .fault then
        fieldOnly (.moduleFaultAsserted b) { s.bay b with moduleFault := true }
      else
        ∃ u, exec (.moduleFaultAsserted b) s = .next (settle u) ∧ Only [.slc, .psq, .bdu, .lxc, .lines] s u
          ∧ Answers none s u ∧ SlotsKept s u
          ∧ u.bay b = { s.bay b with
              state := .fault, moduleFault := true, power := false, hold := none
              bound := (u.bay b).bound, movingIn := (u.bay b).movingIn }
          ∧ ((s.bay b).state = .up ∨ lonely s → lonely u) ∧ u.bdu.uplinkReserve = reserves u)
    ∧ fieldOnly (.moduleFaultDeasserted b) { s.bay b with moduleFault := false }
    ∧ ∀ t,
      (exec (.uplinkPresentAsserted b) s = .next t →
        t.lines = { s.lines with uplinkPresent := setBit s.lines.uplinkPresent b true })
      ∧ (exec (.uplinkPresentDeasserted b) s = .next t →
        t.lines = { s.lines with uplinkPresent := setBit s.lines.uplinkPresent b false })
      ∧ (exec (.moduleFaultAsserted b) s = .next t →
        t.lines = { s.lines with moduleFault := setBit s.lines.moduleFault b true })
      ∧ (exec (.moduleFaultDeasserted b) s = .next t →
        t.lines = { s.lines with moduleFault := setBit s.lines.moduleFault b false })

/-- Rows LINK_UP_ASSERTED, LINK_UP_DEASSERTED, LINK_HOLD_EXPIRY (R126). -/
def Obligations.LinkLinesFollowed : Prop :=
  ∀ (s : State) (b : UplinkBay),
    let row := fun (t : State) (r : BayRec) =>
      t.bay b = { r with bound := (t.bay b).bound, movingIn := (t.bay b).movingIn }
    let alone := fun (t : State) (r : BayRec) => t.lxc = { s.lxc with bays := put s.lxc.bays b r }
    (∃ t, exec (.linkUpAsserted b) s = .next t ∧ Only [.lxc, .lines] s t ∧ Answers none s t
      ∧ t.lines = { s.lines with linkUp := setBit s.lines.linkUp b true }
      ∧ if (s.bay b).state = .down ∧ (s.bay b).hold = none then
          if s.lxc.linkHold = 0 then row t { s.bay b with linkUp := true, state := .up }
          else alone t { s.bay b with linkUp := true, hold := some s.lxc.linkHold }
        else alone t { s.bay b with linkUp := true })
    ∧ (∃ t, exec (.linkUpDeasserted b) s = .next t ∧ Only [.lxc, .lines] s t ∧ Answers none s t
      ∧ t.lines = { s.lines with linkUp := setBit s.lines.linkUp b false }
      ∧ match (s.bay b).state with
        | .down => alone t { s.bay b with linkUp := false, hold := none }
        | .up => row t { s.bay b with linkUp := false, state := .down } ∧ ∀ l, laneBay (t.lane l) ≠ some b
        | _ => alone t { s.bay b with linkUp := false })
    ∧ ((s.bay b).state = .down → (s.bay b).hold ≠ none →
      ∃ t, exec (.linkHoldExpiry b) s = .next t ∧ Only [.lxc] s t ∧ Answers none s t
        ∧ row t { s.bay b with state := .up, hold := none })

/-- Row MOVE_COMPLETION (R135), and the rescan of R133 over every state. -/
def Obligations.MovesCompleteAndRescansExhaustRoom : Prop :=
  (∀ (s : State) (l : LaneId) (b : UplinkBay) (left : Nat), (s.lane l).state = .moving b left →
    (b ∈ (s.lane l).pref →
      ∃ t, exec (.moveCompletion l) s = .next t ∧ Only [.lxc] s t
        ∧ t.lxc = { s.lxc with
            bays := put s.lxc.bays b
              { s.bay b with movingIn := (s.bay b).movingIn - 1, bound := (s.bay b).bound + 1 }
            lanes := put s.lxc.lanes l { s.lane l with state := .bound b } }
        ∧ LinkEffect none [(.laneChanged, ownAndSupervisors (laneSlot l))] s t)
    ∧ (b ∉ (s.lane l).pref →
      ∃ t, exec (.moveCompletion l) s = .next t ∧ Only [.lxc] s t ∧ Answers none s t
        ∧ laneBay (t.lane l) ≠ some b ∧ ∀ k, (t.lane k).pref = (s.lane k).pref
            ∧ (t.lane k).fabric = (s.lane k).fabric ∧ (t.lane k).enable = (s.lane k).enable))
  ∧ ∀ (s : State) (l : LaneId), l ∈ (rescan s).lxc.waitList →
    ∀ b ∈ ((rescan s).lane l).pref,
      ¬ (((rescan s).bay b).state = .up ∧ ((rescan s).bay b).fabric = ((rescan s).lane l).fabric
        ∧ ((rescan s).bay b).bound + ((rescan s).bay b).movingIn < ((rescan s).bay b).capacity)

/-- Rows SET_LANE_PREFERENCE (R142), EDIT_LANE_ENABLE (R143), SET_FAILBACK, SET_LINK_HOLD, SET_MOVE_TIME (R144). -/
def Obligations.LaneRequestsTaken : Prop :=
  ((∀ (s : State) (p : Port) (l : LaneId) (b count : Byte) (bays : Vector Byte 4), b.toNat = l.val →
    Serving s p 89 (b :: count :: bays.toList) →
    let named := (bays.toList.take count.toNat).map (·.toNat)
    let proper : Prop := 1 ≤ count.toNat ∧ count.toNat ≤ 4 ∧ (∀ n ∈ named, n ≤ 3) ∧ named.Nodup
    (¬ proper → ∃ t, exec (.setLanePreference b count bays) s = .next t ∧ Refused p 89 .range s t)
    ∧ (proper →
      ∃ t, exec (.setLanePreference b count bays) s = .next t ∧ Only [.lxc] s t
        ∧ Answers (some (p, 89, reply .done)) s t ∧ (t.lane l).pref.map (·.val) = named
        ∧ (t.lane l).fabric = (s.lane l).fabric ∧ (t.lane l).enable = (s.lane l).enable
        ∧ (∀ k, k ≠ l → (t.lane k).pref = (s.lane k).pref ∧ (t.lane k).fabric = (s.lane k).fabric
            ∧ (t.lane k).enable = (s.lane k).enable)
        ∧ (l ∉ s.lxc.waitList → (s.lane l).state ≠ .incompatible → (∀ y, (s.lane l).state ≠ .bound y) →
            (t.lane l).state = (s.lane l).state)
        ∧ (∀ y, (s.lane l).state = .bound y →
            (y.val ∈ named → l ∉ s.lxc.waitList → (t.lane l).state = .bound y)
            ∧ (y.val ∉ named → laneBay (t.lane l) ≠ some y))))
  ∧ (∀ (s : State) (p : Port) (set clear : BitVec 32) (held : List Byte), Serving s p 90 held →
    if 2 ^ 28 ≤ set.toNat ∨ 2 ^ 28 ≤ clear.toNat then
      ∃ t, exec (.editLaneEnable set clear) s = .next t ∧ Refused p 90 .range s t
    else
      ∃ t, ∃ e : BitVec 28, exec (.editLaneEnable set clear) s = .next t ∧ Only [.lxc] s t
        ∧ Answers (some (p, 90, ⟨.done, .bytes (bytes4 e.toNat)⟩)) s t
        ∧ ∀ l : LaneId, e.getLsbD l = (t.lane l).enable
          ∧ (t.lane l).enable = (((s.lane l).enable || set.getLsbD l) && !clear.getLsbD l)
          ∧ (t.lane l).pref = (s.lane l).pref ∧ (t.lane l).fabric = (s.lane l).fabric
          ∧ ((s.lane l).enable = true → (t.lane l).enable = false →
              l ∉ t.lxc.waitList ∧ (t.lane l).state = if (s.lane l).fabric = 0 then .none else .disabled)
          ∧ ((s.lane l).enable = false → (t.lane l).enable = true →
              (s.lane l).fabric = 0 ∨ (s.slot (laneSlot l)).state.running = false →
              (t.lane l).state = if (s.lane l).fabric = 0 then .none else .idle))
  ∧ ∀ (s : State) (p : Port),
    (∀ (f : FlagArg) (held : List Byte), Serving s p 91 held →
      match f with
      | .other => ∃ t, exec (.setFailback f) s = .next t ∧ Refused p 91 .range s t
      | _ => ∃ t, exec (.setFailback f) s = .next t ∧ Only [.lxc] s t
          ∧ t.lxc = { s.lxc with failback := decide (f = .on) } ∧ LinkEffect (some (p, 91, reply .done)) [] s t)
    ∧ (∀ h : BitVec 16, Serving s p 92 (bytes2 h.toNat) →
      ∃ t, exec (.setLinkHold h) s = .next t ∧ Only [.lxc] s t ∧ t.lxc = { s.lxc with linkHold := min 10000 h.toNat }
        ∧ LinkEffect (some (p, 92, if h.toNat ≤ 10000 then reply .done else ⟨.clamped, .linkHold 10000⟩)) [] s t)
    ∧ ∀ m : Byte, Serving s p 93 [m] →
      ∃ t, exec (.setMoveTime m) s = .next t ∧ Only [.lxc] s t ∧ t.lxc = { s.lxc with moveTime := max 1 m.toNat }
        ∧ LinkEffect (some (p, 93, if m.toNat = 0 then ⟨.clamped, .moveTime 1⟩ else reply .done)) [] s t)
  ∧ ∀ (s : State) (p : Port) (b count : Byte) (bays : Vector Byte 4), 27 < b.toNat →
    Serving s p 89 (b :: count :: bays.toList) →
    ∃ t, exec (.setLanePreference b count bays) s = .next t ∧ Refused p 89 .range s t

/-- Rows IDENTITY_READ_END, IDENTITY_READ_TIMEOUT, IDENTITY_HEADER_REJECT (R153, R181). What a block's judgement is, is
the next statement. That bytes cut short of the declared length are no event and change nothing is the model's reading
(log entry 2). That the rounds an event calls for run after all its work, merged (`settle`), is the model's choice
(log entry 5). -/
def Obligations.IdentityReadsEnd : Prop :=
  (∀ (s : State) (n : RecNo) (rest : List RecNo) (left : Nat) (c : Instr) (r : InvState × Option Identity),
    s.inv.readList = n :: rest → n ∉ rest → s.inv.readLeft = some left → readable (positionOf n) = true →
    ((∃ block heard, c = .identityReadEnd block ∧ heardBlock block = some heard
        ∧ r = judgeBlock (positionOf n) heard)
      ∨ (c = .identityReadTimeout ∧ r = (.unreadable, none))
      ∨ ∃ kind len, c = .identityHeaderReject kind len ∧ headerGood kind len = false ∧ r = (.unreadable, none)) →
    ∃ u, exec c s = .next (settle u) ∧ Only [.slc, .psq, .bdu, .lxc, .inv] s u ∧ Answers none s u ∧ SlotsKept s u
      ∧ u.inv.readList = rest ∧ u.record n = ⟨r.1, .none, r.2⟩
      ∧ u.inv.readLeft = (if rest = [] then none else some 100)
      ∧ (∀ m, m ∈ rest.head? → (u.record m).read = .inFlight)
      ∧ (∀ m, m ≠ n → (u.record m).state = (s.record m).state ∧ (u.record m).identity = (s.record m).identity)
      ∧ u.inv.generation = s.inv.generation
          + (if (s.record n).state = r.1 ∧ (s.record n).identity = r.2 then 0#16 else 1#16)
      ∧ (∀ b : SupplyBay, n = supplyRecord b → (u.supply b).identity = r.1
          ∧ ((s.supply b).state ≠ .absent →
            (∀ common rating, r = (.identified, some (.supply common rating)) → (u.supply b).rating = rating
              ∧ (u.supply b).state = if (s.supply b).state = .unidentified then
                  (if (s.supply b).outputGood then .healthy else .failed) else (s.supply b).state)
            ∧ (r.1 ≠ .identified → (u.supply b).state = .unidentified ∧ (u.supply b).rating = 0)))
      ∧ ∀ b : UplinkBay, n = uplinkRecord b → (s.bay b).state ≠ .absent →
          (∀ x, r = (.identified, some (.uplink x)) →
            (u.bay b).fabric = x.fabric ∧ (u.bay b).capacity = x.capacity ∧ (u.bay b).reserve = x.reserve
            ∧ ((s.bay b).state = .identifying → (u.bay b).state =
                if (s.bay b).moduleFault then .fault
                else if (s.bay b).linkUp = true ∧ s.lxc.linkHold = 0 then .up else .down))
          ∧ (r.1 ≠ .identified → (u.bay b).state = .fault ∧ (u.bay b).power = false ∧ (u.bay b).fabric = 0
            ∧ (u.bay b).capacity = 0 ∧ (u.bay b).reserve = 0))
  ∧ (∀ (s : State) (block : List Byte), heardBlock block = none → Settled s →
      exec (.identityReadEnd block) s = .next s)
  ∧ (∀ block : List Byte, block.length < 5 → heardBlock block = none)
  ∧ ∀ (block extra : List Byte) (n : Nat), 5 ≤ n → block.length = n →
    (headerGood (block.getD 0 0) (block.getD 4 0) = true →
      n = blockLength (block.getD 0 0) (block.getD 4 0) → heardBlock (block ++ extra) = some block)
    ∧ (headerGood (block.getD 0 0) (block.getD 4 0) = true →
      n < blockLength (block.getD 0 0) (block.getD 4 0) → heardBlock block = none)
    ∧ (headerGood (block.getD 0 0) (block.getD 4 0) = false → heardBlock (block ++ extra) = some (block.take 5))

/-- The judgement of R153 over the layout of section 12.5, and row REREAD_IDENTITY (R155). -/
def Obligations.BlocksJudgedAndRereadsQueued : Prop :=
  (∀ (model : BitVec 16) (rev check : Byte) (serial : List Byte) (rating : BitVec 16) (fabric capacity : Byte)
      (reserve : BitVec 16), 1 ≤ serial.length → serial.length ≤ 16 →
    let common : Common := ⟨model, rev, serial⟩
    let supply := [0xA1#8] ++ bytes2 model.toNat ++ [rev, BitVec.ofNat 8 serial.length] ++ serial
      ++ bytes2 rating.toNat ++ [check]
    let uplink := [0xA2#8] ++ bytes2 model.toNat ++ [rev, BitVec.ofNat 8 serial.length] ++ serial
      ++ [fabric, capacity] ++ bytes2 reserve.toNat ++ [check]
    let sound := fun block : List Byte => (block.map (·.toNat)).sum % 256 = 0
    ∀ (b : SupplyBay) (y : UplinkBay),
      (∀ pos block, block = supply ∨ block = uplink → ¬ sound block → judgeBlock pos block = (.unreadable, none))
      ∧ (sound supply → rating.toNat ≤ 4095 →
          judgeBlock (.supply b) supply = (.identified, some (.supply common rating.toNat))
          ∧ judgeBlock (.uplink y) supply = (.mismatch, none))
      ∧ (sound supply → 4095 < rating.toNat → ∀ pos, judgeBlock pos supply = (.unreadable, none))
      ∧ (sound uplink → 1 ≤ fabric.toNat → fabric.toNat ≤ 15 → capacity.toNat ≤ 28 → reserve.toNat ≤ 1023 →
          judgeBlock (.uplink y) uplink
            = (.identified, some (.uplink ⟨common, fabric.toNat, capacity.toNat, reserve.toNat⟩))
          ∧ judgeBlock (.supply b) uplink = (.mismatch, none))
      ∧ (sound uplink → fabric.toNat = 0 ∨ 15 < fabric.toNat ∨ 28 < capacity.toNat ∨ 1023 < reserve.toNat →
          ∀ pos, judgeBlock pos uplink = (.unreadable, none)))
  ∧ ∀ (s : State) (p : Port) (b : Byte), Serving s p 94 [b] →
    (31 < b.toNat → ∃ t, exec (.rereadIdentity b) s = .next t ∧ Refused p 94 .range s t)
    ∧ ∀ n : RecNo, b.toNat = n.val →
      (n.val < 14 ∨ (20 ≤ n.val ∧ n.val < 28) → ∃ t, exec (.rereadIdentity b) s = .next t ∧ Refused p 94 .range s t)
      ∧ ((14 ≤ n.val ∧ n.val < 20) ∨ 28 ≤ n.val →
        ((s.record n).state = .absent → ∃ t, exec (.rereadIdentity b) s = .next t ∧ Refused p 94 .state s t)
        ∧ ((s.record n).state ≠ .absent → (s.record n).read ≠ .none →
            ∃ t, exec (.rereadIdentity b) s = .next t ∧ Refused p 94 .busy s t)
        ∧ ((s.record n).state ≠ .absent → (s.record n).read = .none → n ∉ s.inv.readList →
            ∃ t, exec (.rereadIdentity b) s = .next t ∧ Only [.bdu, .inv] s t
              ∧ LinkEffect (some (p, 94, reply .accepted)) [] s t
              ∧ t.inv.readList = s.inv.readList ++ [n] ∧ t.inv.generation = s.inv.generation
              ∧ (t.record n).state = (s.record n).state ∧ (t.record n).identity = (s.record n).identity
              ∧ (t.record n).read = (if s.inv.readList = [] ∧ s.inv.readLeft = none then .inFlight else .waiting)
              ∧ t.bdu = { s.bdu with supplies := t.bdu.supplies }
              ∧ ∀ y, t.supply y = { s.supply y with identity := (t.supply y).identity }))

/-- Rows REQUEST_FRAME (R159, R160), OVERLONG_LENGTH_DISCARD and INTER_BYTE_TIMEOUT (R159), RESPONSE_SENT and
BUSY_ANSWER_SENT (R161), and the frames of every transmission (R161, R178). A frame is discarded while a BUSY answer
waits in every port state: the model's reading (log entry 19). The order of transmission is the model's (log entry
13); the bytes of a typed payload are free (log entry 4). -/
def Obligations.FramesArriveAndAnswersAreSent : Prop :=
  (∀ (s : State) (p : Port) (kind check : Byte) (payload : List Byte), payload.length ≤ 60 →
    let body := kind :: BitVec.ofNat 8 payload.length :: payload
    let drop := { s.port p with rx := [] }
    let becomes := fun (c : Instr) (r : PortRec) =>
      exec c s = .next { s with lnk := { s.lnk with ports := put s.lnk.ports p r } }
    (check ≠ crc8 body → becomes (.requestFrame p (body ++ [check])) drop)
    ∧ (check = crc8 body → (∃ k, Transmission.busy k ∈ (s.port p).tx) →
        becomes (.requestFrame p (body ++ [check])) drop)
    ∧ (check = crc8 body → (∀ k, Transmission.busy k ∉ (s.port p).tx) → (s.port p).state = .idle →
        (authorityOf kind = none → becomes (.requestFrame p (body ++ [check]))
          { drop with state := .answering, tx := (s.port p).tx ++ [.response ⟨kind, .unknown, .empty⟩] })
        ∧ (authorityOf kind ≠ none → lengthAllowed kind payload = false → becomes (.requestFrame p (body ++ [check]))
          { drop with state := .answering, tx := (s.port p).tx ++ [.response ⟨kind, .format, .empty⟩] })
        ∧ (authorityOf kind ≠ none → lengthAllowed kind payload = true → becomes (.requestFrame p (body ++ [check]))
          { drop with state := .waiting, held := some ⟨kind, payload⟩ }))
    ∧ (check = crc8 body → (∀ k, Transmission.busy k ∉ (s.port p).tx) → (s.port p).state ≠ .idle →
        becomes (.requestFrame p (body ++ [check])) { drop with tx := (s.port p).tx ++ [.busy kind] })
    ∧ (∀ length : Byte, 60 < length.toNat → becomes (.overlongLengthDiscard p kind length) drop)
    ∧ becomes (.interByteTimeout p) drop)
  ∧ (∀ (s : State) (p : Port) (rest : List Transmission),
    (∀ (r : Response) (lines : Lines), (s.port p).tx = .response r :: rest → s.lnk.engine ≠ .restarting p →
      exec (.responseSent p lines) s = .next { s with lnk := { s.lnk with
        ports := put s.lnk.ports p { s.port p with state := .idle, tx := rest } } })
    ∧ ∀ kind : Byte, (s.port p).tx = .busy kind :: rest →
      exec (.busyAnswerSent p) s = .next { s with lnk := { s.lnk with
        ports := put s.lnk.ports p { s.port p with tx := rest } } })
  ∧ (∀ x : Transmission,
      let head : Byte × OutcomeCode := match x with | .busy kind => (kind, .busy) | .response r => (r.kind, r.outcome)
      let wire := match x with | .busy _ => [] | .response r => r.payload.wire
      let parts := x.frames.map fun f => (f.drop 3).dropLast
      parts.flatten = wire ∧ (∀ part ∈ parts.dropLast, part.length = 60) ∧ (∀ part ∈ parts.getLast?, part.length < 60)
      ∧ parts ≠ []
      ∧ ∀ f ∈ x.frames, f.take 3 = [head.1, head.2.code, BitVec.ofNat 8 (f.length - 4)] ∧ 4 ≤ f.length
          ∧ f.getLast? = some (crc8 f.dropLast))
  ∧ (∀ b, (Payload.bytes b).wire = b) ∧ Payload.empty.wire = []
  ∧ [OutcomeCode.done, .accepted, .clamped, .busy, .state, .range, .full, .notPrimary, .notOwner, .held, .unknown,
      .format].map (·.code) = (List.range 12).map (BitVec.ofNat 8)

/-- Row TAKE (R163, R164, R166). -/
def Obligations.TakeServesOnePort : Prop :=
  ∀ (s : State) (p : Port) (r : Request), s.lnk.engine = .free → (s.port p).held = some r →
    authorityOf r.kind ≠ none →
    let waiting := fun q : Port => (s.port q).state = .waiting
    let table := if s.lnk.selectedBank = 0 then s.lnk.bank0 else s.lnk.bank1
    let e := table.get s.lnk.pointer
    let tableTurn : Prop := e.vacant = false ∧ waiting e.port
    let after := fun a q : Port => (q - a - 1).val
    let first := fun (c : PortClass) (a : Port) => waiting p ∧ (s.port p).cls = c
      ∧ ∀ q, waiting q → (s.port q).cls = c → after a p ≤ after a q
    let atEnd : Prop := e.last = true ∨ s.lnk.pointer = 15
    let k := r.kind.toNat
    let outcome : Option OutcomeCode :=
      if k ≤ 5 then (if p.val < 14 ∧ r.payload.head? = some (BitVec.ofNat 8 p.val) then none else some .notOwner)
      else if k ≤ 18 then none
      else if p.val < 14 then some .notOwner
      else if k ≤ 44 then none
      else if s.lnk.holder ≠ none ∧ s.lnk.holder = supervisorOf p then none else some .notPrimary
    ∀ high low : Port,
      ((tableTurn ∧ p = e.port ∧ high = s.lnk.lastHigh ∧ low = s.lnk.lastLow)
        ∨ (¬ tableTurn ∧ first .high s.lnk.lastHigh ∧ high = p ∧ low = s.lnk.lastLow)
        ∨ (¬ tableTurn ∧ (∀ q, waiting q → (s.port q).cls = .low) ∧ first .low s.lnk.lastLow
            ∧ high = s.lnk.lastHigh ∧ low = p)) →
      ∃ t, exec .take s = .next t ∧ Only [] s t
        ∧ t.lnk = { s.lnk with
            ports := t.lnk.ports, pointer := t.lnk.pointer, selectedBank := t.lnk.selectedBank
            swapPending := t.lnk.swapPending, lastHigh := high, lastLow := low
            engine := if outcome = none then .serving p else .free }
        ∧ (∀ q, q ≠ p → t.port q = s.port q)
        ∧ (outcome = none → t.port p = { s.port p with state := .answering })
        ∧ (∀ o, outcome = some o → t.port p = { s.port p with
            state := .answering, held := none, tx := (s.port p).tx ++ [.response ⟨r.kind, o, .empty⟩] })
        ∧ (¬ atEnd → t.lnk.pointer = s.lnk.pointer + 1 ∧ t.lnk.selectedBank = s.lnk.selectedBank
            ∧ t.lnk.swapPending = s.lnk.swapPending)
        ∧ (atEnd → t.lnk.pointer = 0 ∧ t.lnk.swapPending = false
            ∧ t.lnk.selectedBank = if s.lnk.swapPending = true then s.lnk.selectedBank + 1 else s.lnk.selectedBank)

/-- Row SET_ZONE_LIMITS (R100). -/
def Obligations.ZoneLimitsSet : Prop :=
  ∀ (s : State) (p : Port) (b : Byte) (held : List Byte) (a : ZoneLimitArgs), Serving s p 82 held →
    (∀ z : ZoneId, b.toNat = z.val →
      let kept : ZoneLimits :=
        { floorDuty := min 255 a.floorDuty, riseLimit := max 1 (min 255 a.riseLimit)
          fallLimit := max 1 (min 255 a.fallLimit), failoverDuty := min 255 a.failoverDuty
          staleDuty := min 255 a.staleDuty, inletLimit := max (-40) (min 150 a.inletLimit)
          inletBoost := min 255 a.inletBoost, saturationSteps := max 1 (min 255 a.saturationSteps)
          reliefSteps := max 1 (min 255 a.reliefSteps), critical := max 60 (min 120 a.critical) }
      ∃ t, exec (.setZoneLimits b a) s = .next t ∧ Only [.clc] s t
        ∧ t.clc = { s.clc with zones := put s.clc.zones z { s.zone z with limits := kept } }
        ∧ LinkEffect (some (p, 82, if kept = ⟨a.floorDuty, a.riseLimit, a.fallLimit, a.failoverDuty, a.staleDuty,
              a.inletLimit, a.inletBoost, a.saturationSteps, a.reliefSteps, a.critical⟩ then reply .done
            else ⟨.clamped, .zoneLimits kept⟩)) [] s t)
    ∧ (3 < b.toNat → ∃ t, exec (.setZoneLimits b a) s = .next t ∧ Refused p 82 .range s t)

/-- Rows CLAIM_PRIMACY (R168), RELEASE_PRIMACY, PRIMACY_PERIOD_EXPIRY (R169), LOAD_SERVICE_TABLE, SWAP_SERVICE_TABLE
(R165), SET_PORT_PRIORITY (R164). Of the port that a vacant entry holds (log entry 23) nothing is said. -/
def Obligations.PrimacyAndServiceTable : Prop :=
  (∀ (s : State) (c : Supervisor),
    let p := supervisorPort c
    let nobody := { s with lnk := { s.lnk with holder := none, periodLeft := none } }
    (∀ period : Option Byte, Serving s p 42 period.toList →
      let kept := match period with | some b => max 1 (min 60 b.toNat) | none => s.lnk.period
      let o : OutcomeCode := if ∀ b ∈ period, 1 ≤ b.toNat ∧ b.toNat ≤ 60 then .done else .clamped
      (s.lnk.holder = none ∨ s.lnk.holder = some c →
        ∃ t, exec (.claimPrimacy period) s = .next t ∧ Only [] s t
          ∧ LinkEffect (some (p, 42, ⟨o, .primacy (some c) kept⟩))
              (if s.lnk.holder = none then [(.primacy, supervisors)] else [])
              { s with lnk := { s.lnk with holder := some c, period := kept, periodLeft := some (kept * 1000) } } t)
      ∧ (s.lnk.holder ≠ none → s.lnk.holder ≠ some c →
        ∃ t, exec (.claimPrimacy period) s = .next t ∧ Refused p 42 .state s t))
    ∧ (∀ held : List Byte, Serving s p 43 held →
      (s.lnk.holder = some c → ∃ t, exec .releasePrimacy s = .next t ∧ Only [] s t
        ∧ LinkEffect (some (p, 43, reply .done)) [(.primacy, supervisors)] nobody t)
      ∧ (s.lnk.holder ≠ some c → ∃ t, exec .releasePrimacy s = .next t ∧ Refused p 43 .state s t))
    ∧ (s.lnk.holder = some c → ∃ t, exec .primacyPeriodExpiry s = .next t ∧ Only [] s t
        ∧ LinkEffect none [(.primacy, supervisors)] nobody t))
  ∧ (∀ (s : State) (p : Port),
    (∀ (b : Byte) (entries : List EntryArg) (held : List Byte), 1 ≤ entries.length → entries.length ≤ 16 →
      held.length = 1 + 2 * entries.length → Serving s p 95 held →
      let proper : Prop := b.toNat ≤ 1 ∧ ∀ e ∈ entries, e.vacant = false → e.port.toNat ≤ 15
      (¬ proper → ∃ t, exec (.loadServiceTable b entries) s = .next t ∧ Refused p 95 .range s t)
      ∧ (proper → b.toNat = s.lnk.selectedBank.val →
          ∃ t, exec (.loadServiceTable b entries) s = .next t ∧ Refused p 95 .state s t)
      ∧ (proper → b.toNat ≠ s.lnk.selectedBank.val → s.lnk.swapPending = true →
          ∃ t, exec (.loadServiceTable b entries) s = .next t ∧ Refused p 95 .busy s t)
      ∧ (proper → b.toNat ≠ s.lnk.selectedBank.val → s.lnk.swapPending = false →
          ∃ t, ∃ bank : Vector Entry 16, exec (.loadServiceTable b entries) s = .next t ∧ Only [] s t
            ∧ LinkEffect (some (p, 95, reply .done)) [] { s with lnk := { s.lnk with
                bank0 := if b.toNat = 0 then bank else s.lnk.bank0
                bank1 := if b.toNat = 0 then s.lnk.bank1 else bank } } t
            ∧ ∀ n : Fin 16, match entries[n.val]? with
              | none => (bank.get n).vacant = true ∧ (bank.get n).last = true
              | some e => (bank.get n).vacant = e.vacant ∧ (bank.get n).last = e.last
                  ∧ (e.vacant = false → (bank.get n).port.val = e.port.toNat)))
    ∧ (∀ held : List Byte, Serving s p 96 held →
      if s.lnk.swapPending = true then ∃ t, exec .swapServiceTable s = .next t ∧ Refused p 96 .busy s t
      else ∃ t, exec .swapServiceTable s = .next t ∧ Only [] s t
        ∧ LinkEffect (some (p, 96, reply .accepted)) [] { s with lnk := { s.lnk with swapPending := true } } t)
    ∧ ∀ high : BitVec 16, Serving s p 97 (bytes2 high.toNat) →
      ∃ t, exec (.setPortPriority high) s = .next t ∧ Only [] s t
        ∧ LinkEffect (some (p, 97, reply .done)) [] { s with lnk := { s.lnk with
            ports := tabulate fun q => { s.port q with cls := if high.getLsbD q then .high else .low } } } t)

/-- The warm reset of RESET_INPUT_DEASSERTED and RESPONSE_SENT at every block (R24, R62, R94, R115, R147, R157). The order
of the blocks, and of the differences within one, is the model's choice (log entry 8), as are that the deliveries not
yet taken are dropped with the scan (log entry 8) and that the restarted read begins in the reset's own step (log
entry 10). What LNK and PSQ hold, and the settings kept, is another statement. -/
def Obligations.WarmResetTable : Prop :=
  ∀ (s : State) (l : Lines) (t : State),
    (s.lnk.resetMeasure ≠ none ∧ exec (.resetInputDeasserted l) s = .next t)
      ∨ (∃ p r rest, s.lnk.engine = .restarting p ∧ (s.port p).tx = .response r :: rest
        ∧ exec (.responseSent p l) s = .next t) →
    SlotsSound s → SequencerSound s → BudgetSound s → FloorsCovered s → LanesSound s → ReadListSound s →
    let timeout := s.bdu.policy.shedTimeout * 1000
    let shedStop := fun i : SlotId => (t.slot i).state = .stopping ∧ (t.slot i).stopReason = some .shed
    let seen := fun i : SlotId => l.presence.getLsbD i
    let quiet : Prop := (∀ i, seen i = (s.slot i).presence ∧ ((s.slot i).state = .empty → seen i = false))
      ∧ ∀ b : UplinkBay, l.uplinkPresent.getLsbD b = (s.bay b).present ∧ l.linkUp.getLsbD b = (s.bay b).linkUp
        ∧ l.moduleFault.getLsbD b = (s.bay b).moduleFault
    (∀ i, (t.slot i).presence = seen i
      ∧ (seen i = false → (s.slot i).presence = true →
          (t.slot i).state = .empty ∧ (t.slot i).m = 0 ∧ (t.slot i).c = 0
          ∧ ((s.slot i).state.powered = true → PowerRemoved i t))
      ∧ (seen i = false → (s.slot i).state = .empty → t.slot i = s.slot i)
      ∧ (seen i = true → (s.slot i).state = .empty → (t.slot i).state = .detecting ∧ (t.slot i).debounce = some 100)
      ∧ (seen i = (s.slot i).presence → (s.slot i).state ≠ .empty → match (s.slot i).state with
        | .detecting => t.slot i = { s.slot i with debounce := some 100 }
        | .seated => t.slot i = { s.slot i with announceTimer := some 10000 }
        | .queued => t.slot i = { s.slot i with state := .standby, holdingSource := none }
        | .precharge => t.slot i = { s.slot i with
            state := .standby, mainSwitch := false, cap := 0, throttle := false, violations := 0, pulse := .idle
            resetLine := false, stopReason := none, deadline := none } ∧ PowerRemoved i t
        | .on =>
            t.slot i = { s.slot i with pulse := .idle, resetLine := false, cap := (t.slot i).cap }
            ∨ (shedStop i ∧ (t.slot i).deadline = some timeout ∧ SlotKept (s.slot i) (t.slot i)
              ∧ (t.slot i).restore = ((s.slot i).restore || s.bdu.policy.autoRestore))
        | .stopping =>
            let full := if (s.slot i).stopReason = some .shed then timeout else (s.slot i).shutdownTimeout * 1000
            t.slot i = { s.slot i with deadline := some full, cap := (t.slot i).cap }
            ∨ (shedStop i ∧ t.slot i = { s.slot i with
                stopReason := some .shed, deadline := some (min full timeout), cap := (t.slot i).cap })
        | _ => t.slot i = s.slot i))
    ∧ (∀ i, (t.slot i).state ≠ .queued ∧ (t.slot i).state ≠ .precharge)
    ∧ (∀ b, (t.supply b).present = l.supplyPresent.getLsbD b ∧ (t.supply b).outputGood = l.outputGood.getLsbD b
        ∧ (l.supplyPresent.getLsbD b = (s.supply b).present → l.outputGood.getLsbD b = (s.supply b).outputGood →
          t.supply b = s.supply b))
    ∧ (∀ i, t.bdu.floors.get i = if (t.slot i).state.powered then s.bdu.floors.get i else none)
    ∧ t.bdu.redundancy = conditionOf t
    ∧ t.bdu.side = (if (s.bdu.policy.threshold : Int) ≤ headroom t then .atOrAbove else .below)
    ∧ ((s.clc.trip = true ∨ l.tripInput = false) → committed t ≤ pool t → ∀ i, (t.slot i).state = .on →
        (t.slot i).cap = distributedCap t i)
    ∧ (∀ b, (t.bay b).present = l.uplinkPresent.getLsbD b ∧ (t.bay b).linkUp = l.linkUp.getLsbD b
        ∧ (t.bay b).moduleFault = l.moduleFault.getLsbD b)
    ∧ (∀ b, heldType t b = strapOf l.straps b) ∧ t.clc.search = none ∧ (∀ b, t.clc.captures.get b = none)
    ∧ (t.clc.trip = (s.clc.trip || l.tripInput))
    ∧ (l.tripInput = s.clc.trip → s.clc.search = none → (∀ b, heldType s b = strapOf l.straps b) →
        t.clc.fans = s.clc.fans ∧ t.clc.zones = s.clc.zones)
    ∧ (quiet →
        (∀ b, (t.bay b).state ≠ (s.bay b).state → (s.bay b).hold ≠ none ∧ s.lxc.linkHold = 0)
        ∧ (∀ b, (s.bay b).hold ≠ none → s.lxc.linkHold ≠ 0 →
            (t.bay b).hold = if l.linkUp.getLsbD b then some s.lxc.linkHold else none)
        ∧ ((∀ b, (s.bay b).hold = none) →
          (∀ k y, (s.lane k).state = .bound y → t.lane k = s.lane k)
          ∧ (∀ k ∈ t.lxc.waitList, ∀ b ∈ (t.lane k).pref, ¬ ((t.bay b).state = .up
              ∧ (t.bay b).fabric = (t.lane k).fabric ∧ (t.bay b).bound + (t.bay b).movingIn < (t.bay b).capacity))
          ∧ (∃ kept later, t.lxc.waitList = kept ++ later ∧ kept.Sublist s.lxc.waitList
              ∧ ∀ k ∈ later, k ∉ s.lxc.waitList)
          ∧ ∀ k b left, (s.lane k).state = .moving b left →
              (t.lane k).state = .waiting ∨ (t.lane k).state = .incompatible
                ∨ ∃ c, (t.lane k).state = .moving c s.lxc.moveTime))
    ∧ (∀ c, t.reading c = s.reading c) ∧ t.ssc.completed = s.ssc.completed + (if s.ssc.source = .periodic
        ∧ enabledChannels s = [] then 1#16 else 0#16)
    ∧ t.ssc.overrun = s.ssc.overrun
    ∧ (enabledChannels s ≠ [] → t.ssc.toClc = [] ∧ t.ssc.toSlc = [])
    ∧ (t.ssc.scan = if s.ssc.source = .periodic ∧ enabledChannels s ≠ [] then
        some ⟨.periodic, enabledChannels s, enabledChannels s, 2⟩ else none)
    ∧ (t.ssc.periodTimer = if s.ssc.source = .periodic then some s.ssc.period else none)
    ∧ t.inv.readLeft = (if t.inv.readList = [] then none else some 100)
    ∧ (∀ n ∈ t.inv.readList.head?, (t.record n).read = .inFlight)
    ∧ (quiet → (∀ b : SupplyBay, l.supplyPresent.getLsbD b = (s.supply b).present) →
        (∀ b, heldType s b = strapOf l.straps b) →
        t.inv.readList = s.inv.readList ∧ t.inv.generation = s.inv.generation
        ∧ ∀ n, (t.record n).state = (s.record n).state ∧ (t.record n).identity = (s.record n).identity)

/-- Rows SELECT_CONDITIONS (R174), FETCH_NOTICES (R175), POST_NOTICE (R176). That a named port which deselected POSTED
while it was pending is reported is the model's choice (log entry 25). -/
def Obligations.NoticeRequestsServed : Prop :=
  ∀ (s : State) (p : Port),
    (∀ set clear : BitVec 16, Serving s p 16 (bytes2 set.toNat ++ bytes2 clear.toNat) →
      ∃ t, ∃ new : BitVec 16, exec (.selectConditions set clear) s = .next t ∧ Only [] s t
        ∧ (∀ n < 16, new.getLsbD n = (((s.port p).selected.getLsbD n || (set.getLsbD n && (entitlement p).getLsbD n))
            && !(clear.getLsbD n && (entitlement p).getLsbD n)))
        ∧ LinkEffect (some (p, 16, ⟨if (set ||| clear) &&& ~~~(entitlement p) = 0 then .done else .clamped,
            .bytes (bytes2 new.toNat)⟩)) []
            { s with lnk := { s.lnk with ports := put s.lnk.ports p { s.port p with selected := new } } } t)
    ∧ (∀ held : List Byte, Serving s p 17 held →
      ∃ t, exec .fetchNotices s = .next t ∧ Only [] s t
        ∧ LinkEffect (some (p, 17, ⟨.done, .bytes (bytes2 (s.port p).pending.toNat)⟩)) []
            { s with lnk := { s.lnk with
              ports := put s.lnk.ports p { s.port p with pending := 0, attention := false } } } t)
    ∧ ∀ ports : BitVec 16, Serving s p 98 (bytes2 ports.toNat) →
      ∃ t, ∃ on : BitVec 16, exec (.postNotice ports) s = .next t ∧ Only [] s t
        ∧ (∀ q : Port, on.getLsbD q = (ports.getLsbD q && (t.port q).pending.getLsbD 15))
        ∧ LinkEffect (some (p, 98, ⟨.done, .bytes (bytes2 on.toNat)⟩)) [(.posted, ports)] s t

/-- Rows POWER_ON, RESET_INPUT_ASSERTED, RESET_INPUT_DEASSERTED, RESET_INPUT_HELD_1S, RESTART_CONTROLLER (R171), and the
warm reset of RESPONSE_SENT. The lines' levels at the reset are operands (log entry 7); that the read list after a
cold reset has the supplies in ascending order and then the uplink bays in ascending order is the model's order, which
R157 leaves open (log entry 7); which lines a warm reset samples (log entry 8) and that no measurement runs after a
cold reset (log entry 24) are the model's choices. -/
def Obligations.ResetsAndRestart : Prop :=
  ∀ (s : State) (l : Lines),
    let cold := fun (t : State) (lines : Lines) =>
      let fan := fun b => strapOf lines.straps b
      let units := ((indexes 6).filter fun b : SupplyBay => lines.supplyPresent.getLsbD b).map supplyRecord
        ++ ((indexes 4).filter fun b : UplinkBay => lines.uplinkPresent.getLsbD b).map uplinkRecord
      t.lnk = resetLnk .cold none ∧ t.lines = lines ∧ t.psq = coldPsq ∧ t.pending = s.pending
      ∧ (∀ i, t.slot i = if lines.presence.getLsbD i then
          { coldSlot lines i with state := .detecting, debounce := some 100 } else coldSlot lines i)
      ∧ (∀ b, t.supply b = if lines.supplyPresent.getLsbD b then
          ⟨.unidentified, true, lines.outputGood.getLsbD b, .reading, 0⟩
        else ⟨.absent, false, lines.outputGood.getLsbD b, .absent, 0⟩)
      ∧ t.bdu.policy = ⟨.nPlus1, 95, 150, 200, true, 5⟩ ∧ t.bdu.shedSet = [] ∧ (∀ i, t.bdu.floors.get i = none)
      ∧ t.bdu.uplinkReserve = 0 ∧ t.bdu.fanReserve = ((indexes 8).map fun b => fanTypeReserve (fan b)).sum
      ∧ t.ssc = { coldSsc with scan := some ⟨.periodic, indexes 20, indexes 20, 2⟩ }
      ∧ t.clc.search = none ∧ t.clc.trip = lines.tripInput
      ∧ (∀ z, t.zone z = { coldZone with k := if lines.tripInput then 0 else 100 })
      ∧ (∀ b, t.fan b = if fan b = 0 then coldFan else { coldFan with
          type := fan b, state := .running, command := if lines.tripInput then 255 else 160
          stallFloor := fanStallFloor (fan b) })
      ∧ (∀ b, t.bay b = { coldBay lines b with
          present := lines.uplinkPresent.getLsbD b
          state := if lines.uplinkPresent.getLsbD b then .identifying else .absent })
      ∧ t.lxc = { coldLxc lines with bays := t.lxc.bays }
      ∧ t.inv.readList = units ∧ t.inv.readLeft = (if units = [] then none else some 100)
      ∧ t.inv.generation = BitVec.ofNat 16 (units.length + ((indexes 8).filter fun b => fan b ≠ 0).length)
      ∧ (∀ i, t.record (bladeRecord i) = ⟨.absent, .none, none⟩)
      ∧ (∀ b, t.record (fanRecord b)
          = if fan b = 0 then ⟨.absent, .none, none⟩ else ⟨.identified, .none, some (.fan (fan b))⟩)
      ∧ ∀ n, readable (positionOf n) = true → t.record n = if units.head? = some n then ⟨.reading, .inFlight, none⟩
          else if n ∈ units then ⟨.reading, .waiting, none⟩ else ⟨.absent, .none, none⟩
    let warm := fun (t : State) (kind : ResetKind) (measure : Option Nat) =>
      t.lnk = resetLnk kind measure ∧ t.pending = s.pending
      ∧ t.psq = { s.psq with
          resource := .free, urgentEntry := none, urgentBackup := none, queue := [], queueBackup := none, pendingSet := 0
          trigger := false, roundDue := false }
      ∧ t.bdu.policy = s.bdu.policy ∧ t.ssc.source = s.ssc.source ∧ t.ssc.period = s.ssc.period
      ∧ t.ssc.enable = s.ssc.enable ∧ t.lxc.failback = s.lxc.failback ∧ t.lxc.linkHold = s.lxc.linkHold
      ∧ t.lxc.moveTime = s.lxc.moveTime
      ∧ (∀ z, (t.zone z).curve = (s.zone z).curve ∧ (t.zone z).limits = (s.zone z).limits)
      ∧ (∀ k, (t.lane k).pref = (s.lane k).pref ∧ (t.lane k).enable = (s.lane k).enable)
      ∧ ∀ i, (t.slot i).tier = (s.slot i).tier ∧ (t.slot i).autoPowerOn = (s.slot i).autoPowerOn
        ∧ (t.slot i).mayRequest = (s.slot i).mayRequest ∧ (t.slot i).hold = (s.slot i).hold
        ∧ (t.slot i).zone = (s.slot i).zone ∧ (t.slot i).shutdownTimeout = (s.slot i).shutdownTimeout
        ∧ (t.slot i).resetDelay = (s.slot i).resetDelay ∧ (t.slot i).resetWidth = (s.slot i).resetWidth
        ∧ (t.slot i).latchOpen = (s.slot i).latchOpen ∧ (t.slot i).lastStopForced = (s.slot i).lastStopForced
    let warmLines := { l with
      latchOpen := s.lines.latchOpen, powerGood := s.lines.powerGood, overcurrent := s.lines.overcurrent }
    (∃ t, exec (.powerOn l) s = .next t ∧ cold t l)
    ∧ exec .resetInputAsserted s = .next { s with
        lines := { s.lines with resetInput := true }, lnk := { s.lnk with resetMeasure := some 0 } }
    ∧ (s.lnk.resetMeasure ≠ none →
        (∃ t, exec (.resetInputHeld1s l) s = .next t ∧ cold t { l with resetInput := true })
        ∧ ∃ t, exec (.resetInputDeasserted l) s = .next t ∧ warm t .warmInput none
            ∧ t.lines = { warmLines with resetInput := false })
    ∧ (s.lnk.resetMeasure = none →
        exec (.resetInputDeasserted l) s = .next { s with lines := { s.lines with resetInput := false } })
    ∧ (∀ (p : Port) (held : List Byte), Serving s p 99 held →
        exec .restartController s = .next { s with lnk := { s.lnk with
          engine := .restarting p
          ports := put s.lnk.ports p { s.port p with
            held := none, tx := (s.port p).tx ++ [.response ⟨99, .done, .empty⟩] } } })
    ∧ ∀ (p : Port) (r : Response) (rest : List Transmission), s.lnk.engine = .restarting p →
        (s.port p).tx = .response r :: rest →
        ∃ t, exec (.responseSent p l) s = .next t ∧ warm t .warmRestart s.lnk.resetMeasure
          ∧ t.lines = { warmLines with resetInput := s.lines.resetInput }
end

