-- ==== Sys2Proof/Laws/State.lean ====
section
/-! SUPPORT. The reads of tables and the fields of every update of a state, so that no proof unfolds a record update. -/

namespace Sys2Proof

/-- Reading a table after one entry is replaced. -/
@[simp] theorem get_put {α : Type} {n : Nat} (v : Vector α n) (i j : Fin n) (x : α) :
    (put v i x).get j = if j = i then x else v.get j := by
  simp only [put, Vector.get_eq_getElem, Vector.getElem_set, Fin.ext_iff, eq_comm]

/-- Reading a table written whole. -/
@[simp] theorem get_tabulate {α : Type} {n : Nat} (f : Fin n → α) (j : Fin n) : (tabulate f).get j = f j := by
  simp [tabulate, Vector.get_eq_getElem]

/-- Two tables with equal entries are equal. -/
theorem table_ext {α : Type} {n : Nat} {v w : Vector α n} (h : ∀ i, v.get i = w.get i) : v = w := by
  apply Vector.ext
  intro i hi
  simpa [Vector.get_eq_getElem] using h ⟨i, hi⟩

@[simp] theorem tabulate_get {α : Type} {n : Nat} (v : Vector α n) : (tabulate fun i => v.get i) = v :=
  table_ext fun i => by simp

/-- Replacing an entry by itself changes nothing. -/
@[simp] theorem put_get {α : Type} {n : Nat} (v : Vector α n) (i : Fin n) : put v i (v.get i) = v :=
  table_ext fun j => by simp only [get_put]; split <;> simp_all

@[simp] theorem put_put {α : Type} {n : Nat} (v : Vector α n) (i : Fin n) (x y : α) : put (put v i x) i y = put v i y :=
  table_ext fun j => by simp only [get_put]; split <;> rfl

/-- The bits of a set with one member changed. -/
@[simp] theorem getLsbD_setBit {n : Nat} (v : BitVec n) (i j : Nat) (b : Bool) (hi : i < n) :
    (setBit v i b).getLsbD j = if j = i then b else v.getLsbD j := by
  unfold setBit
  by_cases h : j = i
  · subst h; cases b <;> simp [hi]
  · cases b <;> simp [h, Ne.symm h]
    intro hv; exact BitVec.lt_of_getLsbD hv

namespace Machine

/-! ### Reads after updates -/

theorem modSlot_slot (i : SlotId) (f : SlotRec → SlotRec) (s : State) (j : SlotId) :
    (s.modSlot i f).slot j = if j = i then f (s.slot i) else s.slot j := by
  simp [State.modSlot, State.slot]
@[simp] theorem modSlot_psq (i : SlotId) (f : SlotRec → SlotRec) (s : State) : (s.modSlot i f).psq = s.psq := rfl
@[simp] theorem modSlot_bdu (i : SlotId) (f : SlotRec → SlotRec) (s : State) : (s.modSlot i f).bdu = s.bdu := rfl
@[simp] theorem modSlot_ssc (i : SlotId) (f : SlotRec → SlotRec) (s : State) : (s.modSlot i f).ssc = s.ssc := rfl
@[simp] theorem modSlot_clc (i : SlotId) (f : SlotRec → SlotRec) (s : State) : (s.modSlot i f).clc = s.clc := rfl
@[simp] theorem modSlot_lxc (i : SlotId) (f : SlotRec → SlotRec) (s : State) : (s.modSlot i f).lxc = s.lxc := rfl
@[simp] theorem modSlot_inv (i : SlotId) (f : SlotRec → SlotRec) (s : State) : (s.modSlot i f).inv = s.inv := rfl
@[simp] theorem modSlot_lnk (i : SlotId) (f : SlotRec → SlotRec) (s : State) : (s.modSlot i f).lnk = s.lnk := rfl
@[simp] theorem modSlot_lines (i : SlotId) (f : SlotRec → SlotRec) (s : State) : (s.modSlot i f).lines = s.lines := rfl
@[simp] theorem modSlot_freeCount (i : SlotId) (f : SlotRec → SlotRec) (s : State) : (s.modSlot i f).freeCount = s.freeCount := rfl
@[simp] theorem modSlot_pending (i : SlotId) (f : SlotRec → SlotRec) (s : State) : (s.modSlot i f).pending = s.pending := rfl

theorem modSupply_supply (b : SupplyBay) (f : SupplyRec → SupplyRec) (s : State) (j : SupplyBay) :
    (s.modSupply b f).supply j = if j = b then f (s.supply b) else s.supply j := by
  simp [State.modSupply, State.supply]
@[simp] theorem modSupply_slots (b : SupplyBay) (f : SupplyRec → SupplyRec) (s : State) : (s.modSupply b f).slots = s.slots := rfl
@[simp] theorem modSupply_psq (b : SupplyBay) (f : SupplyRec → SupplyRec) (s : State) : (s.modSupply b f).psq = s.psq := rfl
@[simp] theorem modSupply_ssc (b : SupplyBay) (f : SupplyRec → SupplyRec) (s : State) : (s.modSupply b f).ssc = s.ssc := rfl
@[simp] theorem modSupply_clc (b : SupplyBay) (f : SupplyRec → SupplyRec) (s : State) : (s.modSupply b f).clc = s.clc := rfl
@[simp] theorem modSupply_lxc (b : SupplyBay) (f : SupplyRec → SupplyRec) (s : State) : (s.modSupply b f).lxc = s.lxc := rfl
@[simp] theorem modSupply_inv (b : SupplyBay) (f : SupplyRec → SupplyRec) (s : State) : (s.modSupply b f).inv = s.inv := rfl
@[simp] theorem modSupply_lnk (b : SupplyBay) (f : SupplyRec → SupplyRec) (s : State) : (s.modSupply b f).lnk = s.lnk := rfl
@[simp] theorem modSupply_lines (b : SupplyBay) (f : SupplyRec → SupplyRec) (s : State) : (s.modSupply b f).lines = s.lines := rfl
@[simp] theorem modSupply_freeCount (b : SupplyBay) (f : SupplyRec → SupplyRec) (s : State) : (s.modSupply b f).freeCount = s.freeCount := rfl
@[simp] theorem modSupply_pending (b : SupplyBay) (f : SupplyRec → SupplyRec) (s : State) : (s.modSupply b f).pending = s.pending := rfl
@[simp] theorem modSupply_bdu_policy (b : SupplyBay) (f : SupplyRec → SupplyRec) (s : State) : (s.modSupply b f).bdu.policy = s.bdu.policy := rfl
@[simp] theorem modSupply_bdu_fanReserve (b : SupplyBay) (f : SupplyRec → SupplyRec) (s : State) : (s.modSupply b f).bdu.fanReserve = s.bdu.fanReserve := rfl
@[simp] theorem modSupply_bdu_uplinkReserve (b : SupplyBay) (f : SupplyRec → SupplyRec) (s : State) : (s.modSupply b f).bdu.uplinkReserve = s.bdu.uplinkReserve := rfl
@[simp] theorem modSupply_bdu_floors (b : SupplyBay) (f : SupplyRec → SupplyRec) (s : State) : (s.modSupply b f).bdu.floors = s.bdu.floors := rfl
@[simp] theorem modSupply_bdu_side (b : SupplyBay) (f : SupplyRec → SupplyRec) (s : State) : (s.modSupply b f).bdu.side = s.bdu.side := rfl
@[simp] theorem modSupply_bdu_redundancy (b : SupplyBay) (f : SupplyRec → SupplyRec) (s : State) : (s.modSupply b f).bdu.redundancy = s.bdu.redundancy := rfl
@[simp] theorem modSupply_bdu_shedSet (b : SupplyBay) (f : SupplyRec → SupplyRec) (s : State) : (s.modSupply b f).bdu.shedSet = s.bdu.shedSet := rfl
@[simp] theorem modSupply_bdu_lastPass (b : SupplyBay) (f : SupplyRec → SupplyRec) (s : State) : (s.modSupply b f).bdu.lastPass = s.bdu.lastPass := rfl

theorem modZone_zone (z : ZoneId) (f : ZoneRec → ZoneRec) (s : State) (j : ZoneId) :
    (s.modZone z f).zone j = if j = z then f (s.zone z) else s.zone j := by
  simp [State.modZone, State.zone]
@[simp] theorem modZone_slots (z : ZoneId) (f : ZoneRec → ZoneRec) (s : State) : (s.modZone z f).slots = s.slots := rfl
@[simp] theorem modZone_psq (z : ZoneId) (f : ZoneRec → ZoneRec) (s : State) : (s.modZone z f).psq = s.psq := rfl
@[simp] theorem modZone_bdu (z : ZoneId) (f : ZoneRec → ZoneRec) (s : State) : (s.modZone z f).bdu = s.bdu := rfl
@[simp] theorem modZone_ssc (z : ZoneId) (f : ZoneRec → ZoneRec) (s : State) : (s.modZone z f).ssc = s.ssc := rfl
@[simp] theorem modZone_lxc (z : ZoneId) (f : ZoneRec → ZoneRec) (s : State) : (s.modZone z f).lxc = s.lxc := rfl
@[simp] theorem modZone_inv (z : ZoneId) (f : ZoneRec → ZoneRec) (s : State) : (s.modZone z f).inv = s.inv := rfl
@[simp] theorem modZone_lnk (z : ZoneId) (f : ZoneRec → ZoneRec) (s : State) : (s.modZone z f).lnk = s.lnk := rfl
@[simp] theorem modZone_lines (z : ZoneId) (f : ZoneRec → ZoneRec) (s : State) : (s.modZone z f).lines = s.lines := rfl
@[simp] theorem modZone_freeCount (z : ZoneId) (f : ZoneRec → ZoneRec) (s : State) : (s.modZone z f).freeCount = s.freeCount := rfl
@[simp] theorem modZone_pending (z : ZoneId) (f : ZoneRec → ZoneRec) (s : State) : (s.modZone z f).pending = s.pending := rfl
@[simp] theorem modZone_clc_fans (z : ZoneId) (f : ZoneRec → ZoneRec) (s : State) : (s.modZone z f).clc.fans = s.clc.fans := rfl
@[simp] theorem modZone_clc_captures (z : ZoneId) (f : ZoneRec → ZoneRec) (s : State) : (s.modZone z f).clc.captures = s.clc.captures := rfl
@[simp] theorem modZone_clc_tachCounter (z : ZoneId) (f : ZoneRec → ZoneRec) (s : State) : (s.modZone z f).clc.tachCounter = s.clc.tachCounter := rfl
@[simp] theorem modZone_clc_trip (z : ZoneId) (f : ZoneRec → ZoneRec) (s : State) : (s.modZone z f).clc.trip = s.clc.trip := rfl
@[simp] theorem modZone_clc_search (z : ZoneId) (f : ZoneRec → ZoneRec) (s : State) : (s.modZone z f).clc.search = s.clc.search := rfl
@[simp] theorem modZone_clc_reports (z : ZoneId) (f : ZoneRec → ZoneRec) (s : State) : (s.modZone z f).clc.reports = s.clc.reports := rfl

theorem modFan_fan (b : FanBay) (f : FanRec → FanRec) (s : State) (j : FanBay) :
    (s.modFan b f).fan j = if j = b then f (s.fan b) else s.fan j := by
  simp [State.modFan, State.fan]
@[simp] theorem modFan_slots (b : FanBay) (f : FanRec → FanRec) (s : State) : (s.modFan b f).slots = s.slots := rfl
@[simp] theorem modFan_psq (b : FanBay) (f : FanRec → FanRec) (s : State) : (s.modFan b f).psq = s.psq := rfl
@[simp] theorem modFan_bdu (b : FanBay) (f : FanRec → FanRec) (s : State) : (s.modFan b f).bdu = s.bdu := rfl
@[simp] theorem modFan_ssc (b : FanBay) (f : FanRec → FanRec) (s : State) : (s.modFan b f).ssc = s.ssc := rfl
@[simp] theorem modFan_lxc (b : FanBay) (f : FanRec → FanRec) (s : State) : (s.modFan b f).lxc = s.lxc := rfl
@[simp] theorem modFan_inv (b : FanBay) (f : FanRec → FanRec) (s : State) : (s.modFan b f).inv = s.inv := rfl
@[simp] theorem modFan_lnk (b : FanBay) (f : FanRec → FanRec) (s : State) : (s.modFan b f).lnk = s.lnk := rfl
@[simp] theorem modFan_lines (b : FanBay) (f : FanRec → FanRec) (s : State) : (s.modFan b f).lines = s.lines := rfl
@[simp] theorem modFan_freeCount (b : FanBay) (f : FanRec → FanRec) (s : State) : (s.modFan b f).freeCount = s.freeCount := rfl
@[simp] theorem modFan_pending (b : FanBay) (f : FanRec → FanRec) (s : State) : (s.modFan b f).pending = s.pending := rfl
@[simp] theorem modFan_clc_zones (b : FanBay) (f : FanRec → FanRec) (s : State) : (s.modFan b f).clc.zones = s.clc.zones := rfl
@[simp] theorem modFan_clc_captures (b : FanBay) (f : FanRec → FanRec) (s : State) : (s.modFan b f).clc.captures = s.clc.captures := rfl
@[simp] theorem modFan_clc_tachCounter (b : FanBay) (f : FanRec → FanRec) (s : State) : (s.modFan b f).clc.tachCounter = s.clc.tachCounter := rfl
@[simp] theorem modFan_clc_trip (b : FanBay) (f : FanRec → FanRec) (s : State) : (s.modFan b f).clc.trip = s.clc.trip := rfl
@[simp] theorem modFan_clc_search (b : FanBay) (f : FanRec → FanRec) (s : State) : (s.modFan b f).clc.search = s.clc.search := rfl
@[simp] theorem modFan_clc_reports (b : FanBay) (f : FanRec → FanRec) (s : State) : (s.modFan b f).clc.reports = s.clc.reports := rfl

theorem modBay_bay (b : UplinkBay) (f : BayRec → BayRec) (s : State) (j : UplinkBay) :
    (s.modBay b f).bay j = if j = b then f (s.bay b) else s.bay j := by
  simp [State.modBay, State.bay]
@[simp] theorem modBay_slots (b : UplinkBay) (f : BayRec → BayRec) (s : State) : (s.modBay b f).slots = s.slots := rfl
@[simp] theorem modBay_psq (b : UplinkBay) (f : BayRec → BayRec) (s : State) : (s.modBay b f).psq = s.psq := rfl
@[simp] theorem modBay_bdu (b : UplinkBay) (f : BayRec → BayRec) (s : State) : (s.modBay b f).bdu = s.bdu := rfl
@[simp] theorem modBay_ssc (b : UplinkBay) (f : BayRec → BayRec) (s : State) : (s.modBay b f).ssc = s.ssc := rfl
@[simp] theorem modBay_clc (b : UplinkBay) (f : BayRec → BayRec) (s : State) : (s.modBay b f).clc = s.clc := rfl
@[simp] theorem modBay_inv (b : UplinkBay) (f : BayRec → BayRec) (s : State) : (s.modBay b f).inv = s.inv := rfl
@[simp] theorem modBay_lnk (b : UplinkBay) (f : BayRec → BayRec) (s : State) : (s.modBay b f).lnk = s.lnk := rfl
@[simp] theorem modBay_lines (b : UplinkBay) (f : BayRec → BayRec) (s : State) : (s.modBay b f).lines = s.lines := rfl
@[simp] theorem modBay_freeCount (b : UplinkBay) (f : BayRec → BayRec) (s : State) : (s.modBay b f).freeCount = s.freeCount := rfl
@[simp] theorem modBay_pending (b : UplinkBay) (f : BayRec → BayRec) (s : State) : (s.modBay b f).pending = s.pending := rfl
@[simp] theorem modBay_lxc_lanes (b : UplinkBay) (f : BayRec → BayRec) (s : State) : (s.modBay b f).lxc.lanes = s.lxc.lanes := rfl
@[simp] theorem modBay_lxc_waitList (b : UplinkBay) (f : BayRec → BayRec) (s : State) : (s.modBay b f).lxc.waitList = s.lxc.waitList := rfl
@[simp] theorem modBay_lxc_failback (b : UplinkBay) (f : BayRec → BayRec) (s : State) : (s.modBay b f).lxc.failback = s.lxc.failback := rfl
@[simp] theorem modBay_lxc_linkHold (b : UplinkBay) (f : BayRec → BayRec) (s : State) : (s.modBay b f).lxc.linkHold = s.lxc.linkHold := rfl
@[simp] theorem modBay_lxc_moveTime (b : UplinkBay) (f : BayRec → BayRec) (s : State) : (s.modBay b f).lxc.moveTime = s.lxc.moveTime := rfl

theorem modLane_lane (l : LaneId) (f : LaneRec → LaneRec) (s : State) (j : LaneId) :
    (s.modLane l f).lane j = if j = l then f (s.lane l) else s.lane j := by
  simp [State.modLane, State.lane]
@[simp] theorem modLane_slots (l : LaneId) (f : LaneRec → LaneRec) (s : State) : (s.modLane l f).slots = s.slots := rfl
@[simp] theorem modLane_psq (l : LaneId) (f : LaneRec → LaneRec) (s : State) : (s.modLane l f).psq = s.psq := rfl
@[simp] theorem modLane_bdu (l : LaneId) (f : LaneRec → LaneRec) (s : State) : (s.modLane l f).bdu = s.bdu := rfl
@[simp] theorem modLane_ssc (l : LaneId) (f : LaneRec → LaneRec) (s : State) : (s.modLane l f).ssc = s.ssc := rfl
@[simp] theorem modLane_clc (l : LaneId) (f : LaneRec → LaneRec) (s : State) : (s.modLane l f).clc = s.clc := rfl
@[simp] theorem modLane_inv (l : LaneId) (f : LaneRec → LaneRec) (s : State) : (s.modLane l f).inv = s.inv := rfl
@[simp] theorem modLane_lnk (l : LaneId) (f : LaneRec → LaneRec) (s : State) : (s.modLane l f).lnk = s.lnk := rfl
@[simp] theorem modLane_lines (l : LaneId) (f : LaneRec → LaneRec) (s : State) : (s.modLane l f).lines = s.lines := rfl
@[simp] theorem modLane_freeCount (l : LaneId) (f : LaneRec → LaneRec) (s : State) : (s.modLane l f).freeCount = s.freeCount := rfl
@[simp] theorem modLane_pending (l : LaneId) (f : LaneRec → LaneRec) (s : State) : (s.modLane l f).pending = s.pending := rfl
@[simp] theorem modLane_lxc_bays (l : LaneId) (f : LaneRec → LaneRec) (s : State) : (s.modLane l f).lxc.bays = s.lxc.bays := rfl
@[simp] theorem modLane_lxc_waitList (l : LaneId) (f : LaneRec → LaneRec) (s : State) : (s.modLane l f).lxc.waitList = s.lxc.waitList := rfl
@[simp] theorem modLane_lxc_failback (l : LaneId) (f : LaneRec → LaneRec) (s : State) : (s.modLane l f).lxc.failback = s.lxc.failback := rfl
@[simp] theorem modLane_lxc_linkHold (l : LaneId) (f : LaneRec → LaneRec) (s : State) : (s.modLane l f).lxc.linkHold = s.lxc.linkHold := rfl
@[simp] theorem modLane_lxc_moveTime (l : LaneId) (f : LaneRec → LaneRec) (s : State) : (s.modLane l f).lxc.moveTime = s.lxc.moveTime := rfl

theorem modRecord_record (n : RecNo) (f : InvRec → InvRec) (s : State) (j : RecNo) :
    (s.modRecord n f).record j = if j = n then f (s.record n) else s.record j := by
  simp [State.modRecord, State.record]
@[simp] theorem modRecord_slots (n : RecNo) (f : InvRec → InvRec) (s : State) : (s.modRecord n f).slots = s.slots := rfl
@[simp] theorem modRecord_psq (n : RecNo) (f : InvRec → InvRec) (s : State) : (s.modRecord n f).psq = s.psq := rfl
@[simp] theorem modRecord_bdu (n : RecNo) (f : InvRec → InvRec) (s : State) : (s.modRecord n f).bdu = s.bdu := rfl
@[simp] theorem modRecord_ssc (n : RecNo) (f : InvRec → InvRec) (s : State) : (s.modRecord n f).ssc = s.ssc := rfl
@[simp] theorem modRecord_clc (n : RecNo) (f : InvRec → InvRec) (s : State) : (s.modRecord n f).clc = s.clc := rfl
@[simp] theorem modRecord_lxc (n : RecNo) (f : InvRec → InvRec) (s : State) : (s.modRecord n f).lxc = s.lxc := rfl
@[simp] theorem modRecord_lnk (n : RecNo) (f : InvRec → InvRec) (s : State) : (s.modRecord n f).lnk = s.lnk := rfl
@[simp] theorem modRecord_lines (n : RecNo) (f : InvRec → InvRec) (s : State) : (s.modRecord n f).lines = s.lines := rfl
@[simp] theorem modRecord_freeCount (n : RecNo) (f : InvRec → InvRec) (s : State) : (s.modRecord n f).freeCount = s.freeCount := rfl
@[simp] theorem modRecord_pending (n : RecNo) (f : InvRec → InvRec) (s : State) : (s.modRecord n f).pending = s.pending := rfl
@[simp] theorem modRecord_inv_generation (n : RecNo) (f : InvRec → InvRec) (s : State) : (s.modRecord n f).inv.generation = s.inv.generation := rfl
@[simp] theorem modRecord_inv_readList (n : RecNo) (f : InvRec → InvRec) (s : State) : (s.modRecord n f).inv.readList = s.inv.readList := rfl
@[simp] theorem modRecord_inv_readLeft (n : RecNo) (f : InvRec → InvRec) (s : State) : (s.modRecord n f).inv.readLeft = s.inv.readLeft := rfl

theorem modPort_port (p : Port) (f : PortRec → PortRec) (s : State) (j : Port) :
    (s.modPort p f).port j = if j = p then f (s.port p) else s.port j := by
  simp [State.modPort, State.port]
@[simp] theorem modPort_slots (p : Port) (f : PortRec → PortRec) (s : State) : (s.modPort p f).slots = s.slots := rfl
@[simp] theorem modPort_psq (p : Port) (f : PortRec → PortRec) (s : State) : (s.modPort p f).psq = s.psq := rfl
@[simp] theorem modPort_bdu (p : Port) (f : PortRec → PortRec) (s : State) : (s.modPort p f).bdu = s.bdu := rfl
@[simp] theorem modPort_ssc (p : Port) (f : PortRec → PortRec) (s : State) : (s.modPort p f).ssc = s.ssc := rfl
@[simp] theorem modPort_clc (p : Port) (f : PortRec → PortRec) (s : State) : (s.modPort p f).clc = s.clc := rfl
@[simp] theorem modPort_lxc (p : Port) (f : PortRec → PortRec) (s : State) : (s.modPort p f).lxc = s.lxc := rfl
@[simp] theorem modPort_inv (p : Port) (f : PortRec → PortRec) (s : State) : (s.modPort p f).inv = s.inv := rfl
@[simp] theorem modPort_lines (p : Port) (f : PortRec → PortRec) (s : State) : (s.modPort p f).lines = s.lines := rfl
@[simp] theorem modPort_freeCount (p : Port) (f : PortRec → PortRec) (s : State) : (s.modPort p f).freeCount = s.freeCount := rfl
@[simp] theorem modPort_pending (p : Port) (f : PortRec → PortRec) (s : State) : (s.modPort p f).pending = s.pending := rfl
@[simp] theorem modPort_lnk_bank0 (p : Port) (f : PortRec → PortRec) (s : State) : (s.modPort p f).lnk.bank0 = s.lnk.bank0 := rfl
@[simp] theorem modPort_lnk_bank1 (p : Port) (f : PortRec → PortRec) (s : State) : (s.modPort p f).lnk.bank1 = s.lnk.bank1 := rfl
@[simp] theorem modPort_lnk_selectedBank (p : Port) (f : PortRec → PortRec) (s : State) : (s.modPort p f).lnk.selectedBank = s.lnk.selectedBank := rfl
@[simp] theorem modPort_lnk_pointer (p : Port) (f : PortRec → PortRec) (s : State) : (s.modPort p f).lnk.pointer = s.lnk.pointer := rfl
@[simp] theorem modPort_lnk_swapPending (p : Port) (f : PortRec → PortRec) (s : State) : (s.modPort p f).lnk.swapPending = s.lnk.swapPending := rfl
@[simp] theorem modPort_lnk_lastHigh (p : Port) (f : PortRec → PortRec) (s : State) : (s.modPort p f).lnk.lastHigh = s.lnk.lastHigh := rfl
@[simp] theorem modPort_lnk_lastLow (p : Port) (f : PortRec → PortRec) (s : State) : (s.modPort p f).lnk.lastLow = s.lnk.lastLow := rfl
@[simp] theorem modPort_lnk_engine (p : Port) (f : PortRec → PortRec) (s : State) : (s.modPort p f).lnk.engine = s.lnk.engine := rfl
@[simp] theorem modPort_lnk_holder (p : Port) (f : PortRec → PortRec) (s : State) : (s.modPort p f).lnk.holder = s.lnk.holder := rfl
@[simp] theorem modPort_lnk_period (p : Port) (f : PortRec → PortRec) (s : State) : (s.modPort p f).lnk.period = s.lnk.period := rfl
@[simp] theorem modPort_lnk_periodLeft (p : Port) (f : PortRec → PortRec) (s : State) : (s.modPort p f).lnk.periodLeft = s.lnk.periodLeft := rfl
@[simp] theorem modPort_lnk_lastReset (p : Port) (f : PortRec → PortRec) (s : State) : (s.modPort p f).lnk.lastReset = s.lnk.lastReset := rfl
@[simp] theorem modPort_lnk_resetMeasure (p : Port) (f : PortRec → PortRec) (s : State) : (s.modPort p f).lnk.resetMeasure = s.lnk.resetMeasure := rfl

@[simp] theorem setLines_slots (f : Lines → Lines) (s : State) : (s.setLines f).slots = s.slots := rfl
@[simp] theorem setLines_psq (f : Lines → Lines) (s : State) : (s.setLines f).psq = s.psq := rfl
@[simp] theorem setLines_bdu (f : Lines → Lines) (s : State) : (s.setLines f).bdu = s.bdu := rfl
@[simp] theorem setLines_ssc (f : Lines → Lines) (s : State) : (s.setLines f).ssc = s.ssc := rfl
@[simp] theorem setLines_clc (f : Lines → Lines) (s : State) : (s.setLines f).clc = s.clc := rfl
@[simp] theorem setLines_lxc (f : Lines → Lines) (s : State) : (s.setLines f).lxc = s.lxc := rfl
@[simp] theorem setLines_inv (f : Lines → Lines) (s : State) : (s.setLines f).inv = s.inv := rfl
@[simp] theorem setLines_lnk (f : Lines → Lines) (s : State) : (s.setLines f).lnk = s.lnk := rfl
@[simp] theorem setLines_freeCount (f : Lines → Lines) (s : State) : (s.setLines f).freeCount = s.freeCount := rfl
@[simp] theorem setLines_pending (f : Lines → Lines) (s : State) : (s.setLines f).pending = s.pending := rfl
@[simp] theorem setLines_lines (f : Lines → Lines) (s : State) : (s.setLines f).lines = f s.lines := rfl

@[simp] theorem callRound_slots (s : State) : (callRound s).slots = s.slots := rfl
@[simp] theorem callRound_bdu (s : State) : (callRound s).bdu = s.bdu := rfl
@[simp] theorem callRound_ssc (s : State) : (callRound s).ssc = s.ssc := rfl
@[simp] theorem callRound_clc (s : State) : (callRound s).clc = s.clc := rfl
@[simp] theorem callRound_lxc (s : State) : (callRound s).lxc = s.lxc := rfl
@[simp] theorem callRound_inv (s : State) : (callRound s).inv = s.inv := rfl
@[simp] theorem callRound_lnk (s : State) : (callRound s).lnk = s.lnk := rfl
@[simp] theorem callRound_lines (s : State) : (callRound s).lines = s.lines := rfl
@[simp] theorem callRound_freeCount (s : State) : (callRound s).freeCount = s.freeCount := rfl
@[simp] theorem callRound_pending (s : State) : (callRound s).pending = s.pending := rfl
@[simp] theorem callRound_psq_resource (s : State) : (callRound s).psq.resource = s.psq.resource := rfl
@[simp] theorem callRound_psq_urgentEntry (s : State) : (callRound s).psq.urgentEntry = s.psq.urgentEntry := rfl
@[simp] theorem callRound_psq_urgentBackup (s : State) : (callRound s).psq.urgentBackup = s.psq.urgentBackup := rfl
@[simp] theorem callRound_psq_queue (s : State) : (callRound s).psq.queue = s.psq.queue := rfl
@[simp] theorem callRound_psq_queueBackup (s : State) : (callRound s).psq.queueBackup = s.psq.queueBackup := rfl
@[simp] theorem callRound_psq_pendingSet (s : State) : (callRound s).psq.pendingSet = s.psq.pendingSet := rfl
@[simp] theorem callRound_psq_group (s : State) : (callRound s).psq.group = s.psq.group := rfl
@[simp] theorem callRound_psq_trigger (s : State) : (callRound s).psq.trigger = s.psq.trigger := rfl
@[simp] theorem callRound_psq_pause (s : State) : (callRound s).psq.pause = s.psq.pause := rfl
@[simp] theorem callRound_psq_urgent (s : State) : (callRound s).psq.urgent = s.psq.urgent := rfl
@[simp] theorem callRound_psq_queueSettings (s : State) : (callRound s).psq.queueSettings = s.psq.queueSettings := rfl
@[simp] theorem callRound_psq_admission (s : State) : (callRound s).psq.admission = s.psq.admission := rfl
@[simp] theorem callRound_psq_triggerOnSync (s : State) : (callRound s).psq.triggerOnSync = s.psq.triggerOnSync := rfl
@[simp] theorem callRound_psq_prechargeTime (s : State) : (callRound s).psq.prechargeTime = s.psq.prechargeTime := rfl
@[simp] theorem callRound_psq_inrushGap (s : State) : (callRound s).psq.inrushGap = s.psq.inrushGap := rfl

@[simp] theorem clearRound_slots (s : State) : (clearRound s).slots = s.slots := rfl
@[simp] theorem clearRound_bdu (s : State) : (clearRound s).bdu = s.bdu := rfl
@[simp] theorem clearRound_ssc (s : State) : (clearRound s).ssc = s.ssc := rfl
@[simp] theorem clearRound_clc (s : State) : (clearRound s).clc = s.clc := rfl
@[simp] theorem clearRound_lxc (s : State) : (clearRound s).lxc = s.lxc := rfl
@[simp] theorem clearRound_inv (s : State) : (clearRound s).inv = s.inv := rfl
@[simp] theorem clearRound_lnk (s : State) : (clearRound s).lnk = s.lnk := rfl
@[simp] theorem clearRound_lines (s : State) : (clearRound s).lines = s.lines := rfl
@[simp] theorem clearRound_freeCount (s : State) : (clearRound s).freeCount = s.freeCount := rfl
@[simp] theorem clearRound_pending (s : State) : (clearRound s).pending = s.pending := rfl
@[simp] theorem clearRound_psq_resource (s : State) : (clearRound s).psq.resource = s.psq.resource := rfl
@[simp] theorem clearRound_psq_urgentEntry (s : State) : (clearRound s).psq.urgentEntry = s.psq.urgentEntry := rfl
@[simp] theorem clearRound_psq_urgentBackup (s : State) : (clearRound s).psq.urgentBackup = s.psq.urgentBackup := rfl
@[simp] theorem clearRound_psq_queue (s : State) : (clearRound s).psq.queue = s.psq.queue := rfl
@[simp] theorem clearRound_psq_queueBackup (s : State) : (clearRound s).psq.queueBackup = s.psq.queueBackup := rfl
@[simp] theorem clearRound_psq_pendingSet (s : State) : (clearRound s).psq.pendingSet = s.psq.pendingSet := rfl
@[simp] theorem clearRound_psq_group (s : State) : (clearRound s).psq.group = s.psq.group := rfl
@[simp] theorem clearRound_psq_trigger (s : State) : (clearRound s).psq.trigger = s.psq.trigger := rfl
@[simp] theorem clearRound_psq_pause (s : State) : (clearRound s).psq.pause = s.psq.pause := rfl
@[simp] theorem clearRound_psq_urgent (s : State) : (clearRound s).psq.urgent = s.psq.urgent := rfl
@[simp] theorem clearRound_psq_queueSettings (s : State) : (clearRound s).psq.queueSettings = s.psq.queueSettings := rfl
@[simp] theorem clearRound_psq_admission (s : State) : (clearRound s).psq.admission = s.psq.admission := rfl
@[simp] theorem clearRound_psq_triggerOnSync (s : State) : (clearRound s).psq.triggerOnSync = s.psq.triggerOnSync := rfl
@[simp] theorem clearRound_psq_prechargeTime (s : State) : (clearRound s).psq.prechargeTime = s.psq.prechargeTime := rfl
@[simp] theorem clearRound_psq_inrushGap (s : State) : (clearRound s).psq.inrushGap = s.psq.inrushGap := rfl

@[simp] theorem callRound_due (s : State) : (callRound s).psq.roundDue = true := rfl
@[simp] theorem clearRound_due (s : State) : (clearRound s).psq.roundDue = false := rfl

/-- `doWhen` does its work or nothing. -/
theorem doWhen_cases (c : Bool) (f : State → State) (s : State) :
    (c = true ∧ doWhen c f s = f s) ∨ (c = false ∧ doWhen c f s = s) := by cases c <;> simp [doWhen]

@[simp] theorem doWhen_true (f : State → State) (s : State) : doWhen true f s = f s := rfl
@[simp] theorem doWhen_false (f : State → State) (s : State) : doWhen false f s = s := rfl

end Machine

end Sys2Proof
end

