-- ==== Sys2Proof/Laws/Links.lean ====
section
/-! SUPPORT. What a raise, a change of a slot's state and an answer do at LNK and to the frame: the laws of `Only` and
`LinkEffect`. -/

namespace Sys2Proof.Machine

/-! ### Frames compose -/

theorem Only.refl (bs : List Part) (s : State) : Only bs s s := by constructor <;> exact .inr rfl

theorem Only.mono {bs cs : List Part} {s t : State} (h : Only bs s t) (hs : bs ⊆ cs) : Only cs s t :=
  ⟨h.slc.imp_left (hs ·), h.psq.imp_left (hs ·), h.bdu.imp_left (hs ·), h.ssc.imp_left (hs ·), h.clc.imp_left (hs ·),
   h.lxc.imp_left (hs ·), h.inv.imp_left (hs ·), h.lines.imp_left (hs ·), h.free.imp_left (hs ·), h.queue.imp_left (hs ·)⟩

/-- Either both steps may change the part, or neither did. -/
theorem frame_step {α : Type} {c : Prop} {x y z : α} (h : c ∨ y = x) (k : c ∨ z = y) : c ∨ z = x := by
  rcases h with h | h
  · exact .inl h
  · exact k.imp_right (·.trans h)

theorem Only.trans {bs : List Part} {s t u : State} (h : Only bs s t) (k : Only bs t u) : Only bs s u :=
  ⟨frame_step h.slc k.slc, frame_step h.psq k.psq, frame_step h.bdu k.bdu, frame_step h.ssc k.ssc,
   frame_step h.clc k.clc, frame_step h.lxc k.lxc, frame_step h.inv k.inv, frame_step h.lines k.lines,
   frame_step h.free k.free, frame_step h.queue k.queue⟩

/-- A frame kept by each step of a fold is kept by the fold. -/
theorem Only.foldl {α : Type} {bs : List Part} {f : State → α → State} (h : ∀ s a, Only bs s (f s a)) (l : List α)
    (s : State) : Only bs s (l.foldl f s) := by
  induction l generalizing s with
  | nil => exact .refl bs s
  | cons a l ih => exact (h s a).trans (ih (f s a))

theorem Only.doWhen {bs : List Part} {f : State → State} (c : Bool) {s : State} (h : Only bs s (f s)) :
    Only bs s (doWhen c f s) := by
  cases c
  · exact .refl bs s
  · exact h

theorem modSlot_only (i : SlotId) (f : SlotRec → SlotRec) (s : State) : Only [.slc] s (s.modSlot i f) := by
  constructor <;> first | exact .inl (by decide) | exact .inr rfl
theorem modSupply_only (b : SupplyBay) (f : SupplyRec → SupplyRec) (s : State) : Only [.bdu] s (s.modSupply b f) := by
  constructor <;> first | exact .inl (by decide) | exact .inr rfl
theorem modZone_only (z : ZoneId) (f : ZoneRec → ZoneRec) (s : State) : Only [.clc] s (s.modZone z f) := by
  constructor <;> first | exact .inl (by decide) | exact .inr rfl
theorem modFan_only (b : FanBay) (f : FanRec → FanRec) (s : State) : Only [.clc] s (s.modFan b f) := by
  constructor <;> first | exact .inl (by decide) | exact .inr rfl
theorem modBay_only (b : UplinkBay) (f : BayRec → BayRec) (s : State) : Only [.lxc] s (s.modBay b f) := by
  constructor <;> first | exact .inl (by decide) | exact .inr rfl
theorem modLane_only (l : LaneId) (f : LaneRec → LaneRec) (s : State) : Only [.lxc] s (s.modLane l f) := by
  constructor <;> first | exact .inl (by decide) | exact .inr rfl
theorem modRecord_only (n : RecNo) (f : InvRec → InvRec) (s : State) : Only [.inv] s (s.modRecord n f) := by
  constructor <;> first | exact .inl (by decide) | exact .inr rfl
theorem modPort_only (p : Port) (f : PortRec → PortRec) (s : State) : Only [] s (s.modPort p f) := by
  constructor <;> exact .inr rfl
theorem setLines_only (f : Lines → Lines) (s : State) : Only [.lines] s (s.setLines f) := by
  constructor <;> first | exact .inl (by decide) | exact .inr rfl
theorem callRound_only (s : State) : Only [] s (callRound s) := by constructor <;> exact .inr rfl
theorem clearRound_only (s : State) : Only [] s (clearRound s) := by constructor <;> exact .inr rfl
@[simp] theorem raise_slots (c : Cond) (ports : BitVec 16) (s : State) : (raise c ports s).slots = s.slots := by simp [raise]
@[simp] theorem raise_psq (c : Cond) (ports : BitVec 16) (s : State) : (raise c ports s).psq = s.psq := by simp [raise]
@[simp] theorem raise_bdu (c : Cond) (ports : BitVec 16) (s : State) : (raise c ports s).bdu = s.bdu := by simp [raise]
@[simp] theorem raise_ssc (c : Cond) (ports : BitVec 16) (s : State) : (raise c ports s).ssc = s.ssc := by simp [raise]
@[simp] theorem raise_clc (c : Cond) (ports : BitVec 16) (s : State) : (raise c ports s).clc = s.clc := by simp [raise]
@[simp] theorem raise_lxc (c : Cond) (ports : BitVec 16) (s : State) : (raise c ports s).lxc = s.lxc := by simp [raise]
@[simp] theorem raise_inv (c : Cond) (ports : BitVec 16) (s : State) : (raise c ports s).inv = s.inv := by simp [raise]
@[simp] theorem raise_lines (c : Cond) (ports : BitVec 16) (s : State) : (raise c ports s).lines = s.lines := by simp [raise]
@[simp] theorem raise_freeCount (c : Cond) (ports : BitVec 16) (s : State) : (raise c ports s).freeCount = s.freeCount := by simp [raise]
@[simp] theorem raise_pending (c : Cond) (ports : BitVec 16) (s : State) : (raise c ports s).pending = s.pending := by simp [raise]
@[simp] theorem enter_psq (i : SlotId) (st : SlotState) (s : State) : (enter i st s).psq = s.psq := by simp [enter]
@[simp] theorem enter_bdu (i : SlotId) (st : SlotState) (s : State) : (enter i st s).bdu = s.bdu := by simp [enter]
@[simp] theorem enter_ssc (i : SlotId) (st : SlotState) (s : State) : (enter i st s).ssc = s.ssc := by simp [enter]
@[simp] theorem enter_clc (i : SlotId) (st : SlotState) (s : State) : (enter i st s).clc = s.clc := by simp [enter]
@[simp] theorem enter_lxc (i : SlotId) (st : SlotState) (s : State) : (enter i st s).lxc = s.lxc := by simp [enter]
@[simp] theorem enter_inv (i : SlotId) (st : SlotState) (s : State) : (enter i st s).inv = s.inv := by simp [enter]
@[simp] theorem enter_lines (i : SlotId) (st : SlotState) (s : State) : (enter i st s).lines = s.lines := by simp [enter]
@[simp] theorem enter_freeCount (i : SlotId) (st : SlotState) (s : State) : (enter i st s).freeCount = s.freeCount := by simp [enter]
@[simp] theorem enter_pending (i : SlotId) (st : SlotState) (s : State) : (enter i st s).pending = s.pending := by simp [enter]
@[simp] theorem answer_slots (p : Port) (kind : Byte) (r : Reply) (s : State) : (answer p kind r s).slots = s.slots := by
  simp [answer, formResponse]
@[simp] theorem answer_psq (p : Port) (kind : Byte) (r : Reply) (s : State) : (answer p kind r s).psq = s.psq := by
  simp [answer, formResponse]
@[simp] theorem answer_bdu (p : Port) (kind : Byte) (r : Reply) (s : State) : (answer p kind r s).bdu = s.bdu := by
  simp [answer, formResponse]
@[simp] theorem answer_ssc (p : Port) (kind : Byte) (r : Reply) (s : State) : (answer p kind r s).ssc = s.ssc := by
  simp [answer, formResponse]
@[simp] theorem answer_clc (p : Port) (kind : Byte) (r : Reply) (s : State) : (answer p kind r s).clc = s.clc := by
  simp [answer, formResponse]
@[simp] theorem answer_lxc (p : Port) (kind : Byte) (r : Reply) (s : State) : (answer p kind r s).lxc = s.lxc := by
  simp [answer, formResponse]
@[simp] theorem answer_inv (p : Port) (kind : Byte) (r : Reply) (s : State) : (answer p kind r s).inv = s.inv := by
  simp [answer, formResponse]
@[simp] theorem answer_lines (p : Port) (kind : Byte) (r : Reply) (s : State) : (answer p kind r s).lines = s.lines := by
  simp [answer, formResponse]
@[simp] theorem answer_freeCount (p : Port) (kind : Byte) (r : Reply) (s : State) : (answer p kind r s).freeCount = s.freeCount := by
  simp [answer, formResponse]
@[simp] theorem answer_pending (p : Port) (kind : Byte) (r : Reply) (s : State) : (answer p kind r s).pending = s.pending := by
  simp [answer, formResponse]
/-- The slot records after a change of a slot's state. -/
theorem enter_slot (i j : SlotId) (st : SlotState) (s : State) :
    (enter i st s).slot j = if j = i then { s.slot i with state := st } else s.slot j := by
  simp [enter, State.slot, State.modSlot]

theorem raise_only (c : Cond) (ports : BitVec 16) (s : State) : Only [] s (raise c ports s) := by
  constructor <;> right <;> simp
theorem enter_only (i : SlotId) (st : SlotState) (s : State) : Only [.slc] s (enter i st s) := by
  constructor <;> first | exact .inl (by decide) | (right; simp)
theorem answer_only (p : Port) (kind : Byte) (r : Reply) (s : State) : Only [] s (answer p kind r s) := by
  constructor <;> right <;> simp

/-! ### LNK: nothing, a raise, a chain, an answer -/

/-- An event that does nothing at LNK. -/
theorem LinkEffect.none_of_eq {s t : State} (h : t.lnk = s.lnk) : LinkEffect none [] s t where
  ports p := by
    have hp : t.port p = s.port p := by simp [State.port, h]
    rw [hp]
    constructor <;> simp [formed, pends, anyPends]
  rest := by simp [h]

theorem LinkEffect.refl (s : State) : LinkEffect none [] s s := .none_of_eq rfl

/-- A raise makes its condition pending on the ports that receive it, and does nothing else (R173, R175). -/
theorem raise_effect (c : Cond) (ports : BitVec 16) (s : State) : LinkEffect none [(c, ports)] s (raise c ports s) where
  ports p := by
    have hp : (raise c ports s).port p = raiseAt c ports p (s.port p) := by simp [raise, State.port]
    rw [hp]
    unfold raiseAt
    split
    · rename_i h
      constructor <;> try simp [formed, pends, anyPends, h]
      intro n hn
      have hb : c.bit < 16 := by cases c <;> decide
      rw [getLsbD_setBit _ _ _ _ hb]
      by_cases e : n = c.bit
      · simp [e]
      · simp [e, Ne.symm e]
    · rename_i h
      constructor <;> simp [formed, pends, anyPends, h]
  rest := rfl

/-- What becomes pending at a port depends on nothing an event changes but its raises. -/
theorem receives_congr {c : Cond} {ports : BitVec 16} {p : Port} {r r' : PortRec} (h : r'.selected = r.selected) :
    receives c ports p r' = receives c ports p r := by simp [receives, h]

theorem PortEffect.trans {a : Option Answer} {rs rs' : List Raise} {p : Port} {x y z : PortRec}
    (h : PortEffect a rs p x y) (k : PortEffect none rs' p y z) : PortEffect a (rs ++ rs') p x z where
  state := k.state.trans h.state
  rx := k.rx.trans h.rx
  cls := k.cls.trans h.cls
  selected := k.selected.trans h.selected
  held := k.held.trans h.held
  tx := by rw [k.tx, h.tx]; simp [formed]
  pending n hn := by
    rw [k.pending n hn, h.pending n hn]
    simp [pends, receives_congr h.selected, Bool.or_assoc]
  attention := by
    rw [k.attention, h.attention]
    simp [anyPends, receives_congr h.selected, Bool.or_assoc]

/-- Raises after an event add to its raises. -/
theorem LinkEffect.trans {a : Option Answer} {rs rs' : List Raise} {s t u : State}
    (h : LinkEffect a rs s t) (k : LinkEffect none rs' t u) : LinkEffect a (rs ++ rs') s u where
  ports p := (h.ports p).trans (k.ports p)
  rest := by rw [k.rest, h.rest]; rfl

/-- A step that leaves LNK alone, after an event. -/
theorem LinkEffect.then {a : Option Answer} {rs : List Raise} {s t u : State}
    (h : LinkEffect a rs s t) (k : u.lnk = t.lnk) : LinkEffect a rs s u := by
  simpa using h.trans (.none_of_eq k)

/-- A step that leaves LNK alone, before an event. -/
theorem LinkEffect.after {a : Option Answer} {rs : List Raise} {s t u : State}
    (h : LinkEffect a rs t u) (k : t.lnk = s.lnk) : LinkEffect a rs s u where
  ports p := by
    have hp : t.port p = s.port p := by simp [State.port, k]
    simpa [hp] using h.ports p
  rest := by rw [h.rest, k]

/-- A change of a slot's state raises SLOT_STATE and does nothing else at LNK (R2). -/
theorem enter_effect (i : SlotId) (st : SlotState) (s : State) :
    LinkEffect none [(.slotState, ownAndSupervisors i)] s (enter i st s) :=
  (raise_effect _ _ _).after rfl

/-- The answer of a service, after the raises of its work (R161, R167). -/
theorem answer_effect {rs : List Raise} {s t : State} (p : Port) (kind : Byte) (r : Reply)
    (h : LinkEffect none rs s t) : LinkEffect (some (p, kind, r)) rs s (answer p kind r t) where
  ports q := by
    have k := h.ports q
    have hq : (answer p kind r t).port q =
        if q = p then { t.port p with held := none, tx := (t.port p).tx ++ [.response ⟨kind, r.outcome, r.payload⟩] }
        else t.port q := by
      simp [answer, formResponse, State.port, State.modPort]
    rw [hq]
    by_cases e : q = p
    · subst e
      simp only [if_true]
      exact ⟨k.state, k.rx, k.cls, k.selected, by simp, by simp [formed, k.tx], k.pending, k.attention⟩
    · simp only [e, if_false]
      exact ⟨k.state, k.rx, k.cls, k.selected, by simp [k.held, Ne.symm e], by simp [formed, k.tx, e], k.pending, k.attention⟩
  rest := by
    have : (answer p kind r t).lnk = { t.lnk with ports := (answer p kind r t).lnk.ports, engine := .free } := rfl
    rw [this, h.rest]
    rfl

/-! ### Answers whose raises are not listed -/

theorem Answers.refl (s : State) : Answers none s s := ⟨_, .refl s⟩
theorem Answers.of_eq {s t : State} (h : t.lnk = s.lnk) : Answers none s t := ⟨_, .none_of_eq h⟩
theorem Answers.trans {a : Option Answer} {s t u : State} (h : Answers a s t) (k : Answers none t u) : Answers a s u := by
  obtain ⟨rs, h⟩ := h
  obtain ⟨rs', k⟩ := k
  exact ⟨_, h.trans k⟩
theorem raise_answers (c : Cond) (ports : BitVec 16) (s : State) : Answers none s (raise c ports s) :=
  ⟨_, raise_effect c ports s⟩
theorem enter_answers (i : SlotId) (st : SlotState) (s : State) : Answers none s (enter i st s) := ⟨_, enter_effect i st s⟩
theorem answer_answers {s t : State} (p : Port) (kind : Byte) (r : Reply) (h : Answers none s t) :
    Answers (some (p, kind, r)) s (answer p kind r t) := h.elim fun _ h => ⟨_, answer_effect p kind r h⟩

theorem Answers.foldl {α : Type} {f : State → α → State} (h : ∀ s a, Answers none s (f s a)) (l : List α) (s : State) :
    Answers none s (l.foldl f s) := by
  induction l generalizing s with
  | nil => exact .refl s
  | cons a l ih => exact (h s a).trans (ih (f s a))

theorem Answers.doWhen {f : State → State} (c : Bool) {s : State} (h : Answers none s (f s)) :
    Answers none s (doWhen c f s) := by
  cases c
  · exact .refl s
  · exact h

/-! ### Quiet steps: a frame, and raises alone at LNK -/

/-- A step that may change the listed parts, and at LNK does nothing but raise. -/
structure Quiet (bs : List Part) (s t : State) : Prop where
  frame : Only bs s t
  links : Answers none s t

theorem Quiet.refl (bs : List Part) (s : State) : Quiet bs s s := ⟨.refl bs s, .refl s⟩
theorem Quiet.trans {bs : List Part} {s t u : State} (h : Quiet bs s t) (k : Quiet bs t u) : Quiet bs s u :=
  ⟨h.frame.trans k.frame, h.links.trans k.links⟩
theorem Quiet.mono {bs cs : List Part} {s t : State} (h : Quiet bs s t) (hs : bs ⊆ cs) : Quiet cs s t :=
  ⟨h.frame.mono hs, h.links⟩
theorem Quiet.of_lnk {bs : List Part} {s t : State} (h : Only bs s t) (k : t.lnk = s.lnk) : Quiet bs s t := ⟨h, .of_eq k⟩
theorem Quiet.foldl {α : Type} {bs : List Part} {f : State → α → State} (h : ∀ s a, Quiet bs s (f s a)) (l : List α)
    (s : State) : Quiet bs s (l.foldl f s) :=
  ⟨.foldl (fun s a => (h s a).frame) l s, .foldl (fun s a => (h s a).links) l s⟩
theorem Quiet.doWhen {bs : List Part} {f : State → State} (c : Bool) {s : State} (h : Quiet bs s (f s)) :
    Quiet bs s (doWhen c f s) := ⟨.doWhen c h.frame, .doWhen c h.links⟩
theorem raise_quiet (bs : List Part) (c : Cond) (ports : BitVec 16) (s : State) : Quiet bs s (raise c ports s) :=
  ⟨(raise_only c ports s).mono (by simp), raise_answers c ports s⟩
theorem callRound_quiet (bs : List Part) (s : State) : Quiet bs s (callRound s) :=
  .of_lnk ((callRound_only s).mono (by simp)) rfl
theorem clearRound_quiet (bs : List Part) (s : State) : Quiet bs s (clearRound s) :=
  .of_lnk ((clearRound_only s).mono (by simp)) rfl
theorem enter_quiet (i : SlotId) (st : SlotState) (s : State) : Quiet [.slc] s (enter i st s) :=
  ⟨enter_only i st s, enter_answers i st s⟩
theorem modSlot_quiet (i : SlotId) (f : SlotRec → SlotRec) (s : State) : Quiet [.slc] s (s.modSlot i f) :=
  .of_lnk (modSlot_only i f s) rfl
theorem modBay_quiet (b : UplinkBay) (f : BayRec → BayRec) (s : State) : Quiet [.lxc] s (s.modBay b f) :=
  .of_lnk (modBay_only b f s) rfl
theorem modLane_quiet (l : LaneId) (f : LaneRec → LaneRec) (s : State) : Quiet [.lxc] s (s.modLane l f) :=
  .of_lnk (modLane_only l f s) rfl

end Sys2Proof.Machine
end

