-- ==== Sys2Proof/Laws/Lanes.lean ====
section
/-! SUPPORT. What the shared work of LXC can do: it changes LXC alone and raises LANE_CHANGED, it leaves the lane and bay
settings, and it never puts a resting lane anywhere. -/

namespace Sys2Proof.Machine

/-- A step of LXC: LXC and raises alone, with its settings kept. -/
structure LaneStep (s t : State) : Prop where
  quiet : Quiet [.lxc] s t
  failback : t.lxc.failback = s.lxc.failback
  linkHold : t.lxc.linkHold = s.lxc.linkHold
  moveTime : t.lxc.moveTime = s.lxc.moveTime

theorem LaneStep.refl (s : State) : LaneStep s s := ⟨.refl _ s, rfl, rfl, rfl⟩
theorem LaneStep.trans {s t u : State} (h : LaneStep s t) (k : LaneStep t u) : LaneStep s u :=
  ⟨h.quiet.trans k.quiet, k.failback.trans h.failback, k.linkHold.trans h.linkHold, k.moveTime.trans h.moveTime⟩
theorem LaneStep.foldl {α : Type} {f : State → α → State} (h : ∀ s a, LaneStep s (f s a)) (l : List α) (s : State) :
    LaneStep s (l.foldl f s) := by
  induction l generalizing s with
  | nil => exact .refl s
  | cons a l ih => exact (h s a).trans (ih (f s a))
theorem LaneStep.doWhen {f : State → State} (c : Bool) {s : State} (h : LaneStep s (f s)) : LaneStep s (doWhen c f s) := by
  cases c
  · exact .refl s
  · exact h

theorem modBay_laneStep (b : UplinkBay) (f : BayRec → BayRec) (s : State) : LaneStep s (s.modBay b f) :=
  ⟨modBay_quiet b f s, rfl, rfl, rfl⟩
theorem modLane_laneStep (l : LaneId) (f : LaneRec → LaneRec) (s : State) : LaneStep s (s.modLane l f) :=
  ⟨modLane_quiet l f s, rfl, rfl, rfl⟩
theorem raise_laneStep (c : Cond) (ports : BitVec 16) (s : State) : LaneStep s (raise c ports s) :=
  ⟨raise_quiet _ c ports s, by simp, by simp, by simp⟩
theorem leaveWaitList_laneStep (l : LaneId) (s : State) : LaneStep s (leaveWaitList l s) :=
  ⟨.of_lnk (by constructor <;> first | exact .inl (by decide) | exact .inr rfl) rfl, rfl, rfl, rfl⟩
theorem setLaneState_laneStep (l : LaneId) (st : LaneState) (s : State) : LaneStep s (setLaneState l st s) :=
  modLane_laneStep l _ s
theorem raiseLane_laneStep (l : LaneId) (s : State) : LaneStep s (raiseLane l s) := raise_laneStep _ _ s

theorem releaseLane_laneStep (l : LaneId) (s : State) : LaneStep s (releaseLane l s) := by
  unfold releaseLane
  split
  · exact ((modBay_laneStep _ _ s).trans (setLaneState_laneStep _ _ _)).trans (raiseLane_laneStep _ _)
  · exact (modBay_laneStep _ _ s).trans (setLaneState_laneStep _ _ _)
  · exact .refl s

theorem takeOut_laneStep (l : LaneId) (s : State) : LaneStep s (takeOut l s) :=
  ((releaseLane_laneStep l s).trans (leaveWaitList_laneStep l _)).trans (modLane_laneStep l _ _)

theorem startMove_laneStep (l : LaneId) (b : UplinkBay) (s : State) : LaneStep s (startMove l b s) :=
  (modBay_laneStep b _ s).trans (setLaneState_laneStep l _ _)

theorem enterWaiting_laneStep (l : LaneId) (s : State) : LaneStep s (enterWaiting l s) := by
  have h : LaneStep s { s with lxc := { s.lxc with waitList := s.lxc.waitList ++ [l] } } :=
    ⟨.of_lnk (by constructor <;> first | exact .inl (by decide) | exact .inr rfl) rfl, rfl, rfl, rfl⟩
  exact (h.trans (setLaneState_laneStep l _ _)).trans (raiseLane_laneStep l _)

theorem enterIncompatible_laneStep (l : LaneId) (s : State) : LaneStep s (enterIncompatible l s) :=
  (setLaneState_laneStep l _ s).trans (raiseLane_laneStep l _)

theorem placeLane_laneStep (l : LaneId) (s : State) : LaneStep s (placeLane l s) := by
  unfold placeLane
  split
  · exact startMove_laneStep l _ s
  · split
    · exact enterWaiting_laneStep l s
    · exact enterIncompatible_laneStep l s

theorem rescanWaiting_laneStep (s : State) (l : LaneId) : LaneStep s (rescanWaiting s l) := by
  unfold rescanWaiting
  split
  · exact (leaveWaitList_laneStep l s).trans (startMove_laneStep l _ _)
  · split
    · exact .refl s
    · exact (leaveWaitList_laneStep l s).trans (enterIncompatible_laneStep l _)

theorem rescanIncompatible_laneStep (s : State) (l : LaneId) : LaneStep s (rescanIncompatible s l) := by
  unfold rescanIncompatible
  split
  · split
    · exact startMove_laneStep l _ s
    · split
      · exact enterWaiting_laneStep l s
      · exact .refl s
  · exact .refl s

theorem rescan_laneStep (s : State) : LaneStep s (rescan s) :=
  (LaneStep.foldl rescanWaiting_laneStep _ s).trans (.foldl rescanIncompatible_laneStep _ _)

theorem displace_laneStep (ls : List LaneId) (s : State) : LaneStep s (displace ls s) :=
  ((LaneStep.foldl (fun s l => releaseLane_laneStep l s) ls s).trans (rescan_laneStep _)).trans
    (.foldl (fun s l => placeLane_laneStep l s) ls _)

theorem giveUpLanes_laneStep (b : UplinkBay) (s : State) : LaneStep s (giveUpLanes b s) := displace_laneStep _ s

theorem lanesOut_laneStep (i : SlotId) (s : State) : LaneStep s (lanesOut i s) := by
  unfold lanesOut
  exact ((takeOut_laneStep (laneA i) s).trans (takeOut_laneStep (laneB i) _)).trans (.doWhen _ (rescan_laneStep _))

theorem lanesIn_laneStep (i : SlotId) (s : State) : LaneStep s (lanesIn i s) :=
  (LaneStep.doWhen _ (placeLane_laneStep (laneA i) s)).trans (.doWhen _ (placeLane_laneStep (laneB i) _))

theorem setFabrics_laneStep (i : SlotId) (a b : Nat) (s : State) : LaneStep s (setFabrics i a b s) := by
  unfold setFabrics
  exact (((modLane_laneStep (laneA i) _ s).trans (takeOut_laneStep _ _)).trans (modLane_laneStep (laneB i) _ _)).trans
    (takeOut_laneStep _ _)

theorem failbackLane_laneStep (y : UplinkBay) (acc : State × Bool) (l : LaneId) :
    LaneStep acc.1 (failbackLane y acc l).1 := by
  unfold failbackLane
  split
  · exact (releaseLane_laneStep l _).trans (startMove_laneStep l y _)
  · exact .refl _

theorem failbackWalk_laneStep (y : UplinkBay) (s : State) : LaneStep s (failbackWalk y s) := by
  have h : ∀ (ls : List LaneId) (acc : State × Bool), LaneStep acc.1 (ls.foldl (failbackLane y) acc).1 := by
    intro ls
    induction ls with
    | nil => exact fun acc => .refl acc.1
    | cons l ls ih => exact fun acc => (failbackLane_laneStep y acc l).trans (ih _)
  exact (h (indexes 28) (s, false)).trans (.doWhen _ (rescan_laneStep _))

theorem enterUp_laneStep (b : UplinkBay) (s : State) : LaneStep s (enterUp b s) := by
  unfold enterUp
  exact ((modBay_laneStep b _ s).trans (rescan_laneStep _)).trans (.doWhen _ (failbackWalk_laneStep b _))

theorem startHold_laneStep (b : UplinkBay) (s : State) : LaneStep s (startHold b s) := by
  unfold startHold
  split
  · exact enterUp_laneStep b s
  · exact modBay_laneStep b _ s

/-! ### A resting lane stays where it is -/

/-- A lane that no rescan and no other lane's release or placement can reach: off the wait list, not INCOMPATIBLE. -/
def Aside (s : State) (l : LaneId) : Prop := l ∉ s.lxc.waitList ∧ (s.lane l).state ≠ .incompatible

/-- The step leaves lane `l` and its absence from the wait list as they are. -/
def Leaves (l : LaneId) (s t : State) : Prop := t.lane l = s.lane l ∧ (l ∉ s.lxc.waitList → l ∉ t.lxc.waitList)

theorem Leaves.refl (l : LaneId) (s : State) : Leaves l s s := ⟨rfl, id⟩
theorem Leaves.trans {l : LaneId} {s t u : State} (h : Leaves l s t) (k : Leaves l t u) : Leaves l s u :=
  ⟨k.1.trans h.1, k.2 ∘ h.2⟩
theorem Leaves.of_lxc {l : LaneId} {s t : State} (h : t.lxc = s.lxc) : Leaves l s t := by
  simp [Leaves, State.lane, h]
theorem Leaves.doWhen {l : LaneId} {f : State → State} (c : Bool) {s : State} (h : Leaves l s (f s)) :
    Leaves l s (doWhen c f s) := by
  cases c
  · exact .refl l s
  · exact h
theorem Leaves.aside {l : LaneId} {s t : State} (h : Leaves l s t) (k : Aside s l) : Aside t l :=
  ⟨h.2 k.1, by rw [h.1]; exact k.2⟩

theorem modBay_leaves (l : LaneId) (b : UplinkBay) (f : BayRec → BayRec) (s : State) : Leaves l s (s.modBay b f) :=
  ⟨rfl, id⟩
theorem setLaneState_leaves {l k : LaneId} (h : l ≠ k) (st : LaneState) (s : State) : Leaves l s (setLaneState k st s) :=
  ⟨by simp [setLaneState, modLane_lane, h], id⟩
theorem modLane_leaves {l k : LaneId} (h : l ≠ k) (f : LaneRec → LaneRec) (s : State) : Leaves l s (s.modLane k f) :=
  ⟨by simp [modLane_lane, h], id⟩
theorem raise_leaves (l : LaneId) (c : Cond) (ports : BitVec 16) (s : State) : Leaves l s (raise c ports s) :=
  .of_lxc (by simp)
theorem leaveWaitList_leaves (l k : LaneId) (s : State) : Leaves l s (leaveWaitList k s) :=
  ⟨rfl, fun h => by simp [leaveWaitList]; exact fun h' => absurd h' h⟩

theorem releaseLane_leaves {l k : LaneId} (h : l ≠ k) (s : State) : Leaves l s (releaseLane k s) := by
  unfold releaseLane
  split
  · exact ((modBay_leaves l _ _ s).trans (setLaneState_leaves h _ _)).trans (raise_leaves l _ _ _)
  · exact (modBay_leaves l _ _ s).trans (setLaneState_leaves h _ _)
  · exact .refl l s

theorem takeOut_leaves {l k : LaneId} (h : l ≠ k) (s : State) : Leaves l s (takeOut k s) :=
  ((releaseLane_leaves h s).trans (leaveWaitList_leaves l k _)).trans (modLane_leaves h _ _)

theorem startMove_leaves {l k : LaneId} (h : l ≠ k) (b : UplinkBay) (s : State) : Leaves l s (startMove k b s) :=
  (modBay_leaves l b _ s).trans (setLaneState_leaves h _ _)

theorem enterWaiting_leaves {l k : LaneId} (h : l ≠ k) (s : State) : Leaves l s (enterWaiting k s) := by
  have h1 : Leaves l s { s with lxc := { s.lxc with waitList := s.lxc.waitList ++ [k] } } :=
    ⟨rfl, fun h' => by simp [h', h]⟩
  exact (h1.trans (setLaneState_leaves h _ _)).trans (raise_leaves l _ _ _)

theorem enterIncompatible_leaves {l k : LaneId} (h : l ≠ k) (s : State) : Leaves l s (enterIncompatible k s) :=
  (setLaneState_leaves h _ s).trans (raise_leaves l _ _ _)

theorem placeLane_leaves {l k : LaneId} (h : l ≠ k) (s : State) : Leaves l s (placeLane k s) := by
  unfold placeLane
  split
  · exact startMove_leaves h _ s
  · split
    · exact enterWaiting_leaves h s
    · exact enterIncompatible_leaves h s

theorem rescanWaiting_leaves {l k : LaneId} (h : l ≠ k) (s : State) : Leaves l s (rescanWaiting s k) := by
  unfold rescanWaiting
  split
  · exact (leaveWaitList_leaves l k s).trans (startMove_leaves h _ _)
  · split
    · exact .refl l s
    · exact (leaveWaitList_leaves l k s).trans (enterIncompatible_leaves h _)

theorem rescanIncompatible_leaves {l : LaneId} (k : LaneId) {s : State} (h : (s.lane l).state ≠ .incompatible) :
    Leaves l s (rescanIncompatible s k) := by
  by_cases e : l = k
  · subst e; simp [rescanIncompatible, h, Leaves]
  · unfold rescanIncompatible
    split
    · split
      · exact startMove_leaves e _ s
      · split
        · exact enterWaiting_leaves e s
        · exact .refl l s
    · exact .refl l s

/-- A rescan leaves a lane that stands aside as it is (R133). -/
theorem rescan_leaves {l : LaneId} {s : State} (h : Aside s l) : Leaves l s (rescan s) := by
  have h1 : ∀ (ws : List LaneId) (s : State), l ∉ ws → Leaves l s (ws.foldl rescanWaiting s) := by
    intro ws
    induction ws with
    | nil => exact fun s _ => .refl l s
    | cons w ws ih =>
      intro s hw
      simp only [List.mem_cons, not_or] at hw
      exact (rescanWaiting_leaves hw.1 s).trans (ih _ hw.2)
  have h2 : ∀ (ks : List LaneId) (s : State), (s.lane l).state ≠ .incompatible →
      Leaves l s (ks.foldl rescanIncompatible s) := by
    intro ks
    induction ks with
    | nil => exact fun s _ => .refl l s
    | cons k ks ih =>
      intro s hs
      have hk := rescanIncompatible_leaves k hs
      exact hk.trans (ih _ (by rw [hk.1]; exact hs))
  have w := h1 s.lxc.waitList s h.1
  exact w.trans (h2 _ _ (by rw [w.1]; exact h.2))

/-- A lane taken out of service rests, and stands aside. -/
theorem takeOut_resting (l : LaneId) (s : State) : Resting (takeOut l s) l ∧ Aside (takeOut l s) l := by
  have hw : l ∉ (takeOut l s).lxc.waitList := by simp [takeOut, leaveWaitList]
  have hs : ((takeOut l s).lane l).state = restingState ((takeOut l s).lane l) := by
    simp [takeOut, modLane_lane, restingState]
  refine ⟨⟨hs, hw⟩, hw, ?_⟩
  rw [hs]
  unfold restingState
  split <;> [skip; split] <;> simp

theorem Resting.of_leaves {l : LaneId} {s t : State} (h : Resting s l) (k : Leaves l s t) : Resting t l :=
  ⟨by rw [k.1]; exact h.1, k.2 h.2⟩

/-- A resting lane stands aside. -/
theorem Resting.aside {l : LaneId} {s : State} (h : Resting s l) : Aside s l := by
  refine ⟨h.2, ?_⟩
  rw [h.1]
  unfold restingState
  split <;> [skip; split] <;> simp

theorem laneA_ne_laneB (i j : SlotId) : laneA i ≠ laneB j := by simp [laneA, laneB, Fin.ext_iff]; omega

/-- After a slot's lanes have left service, both rest (R137). -/
theorem lanesOut_resting (i : SlotId) (s : State) :
    Resting (lanesOut i s) (laneA i) ∧ Resting (lanesOut i s) (laneB i) := by
  have a := takeOut_resting (laneA i) s
  have b := takeOut_resting (laneB i) (takeOut (laneA i) s)
  have ab := takeOut_leaves (laneA_ne_laneB i i) (takeOut (laneA i) s)
  unfold lanesOut
  exact ⟨(a.1.of_leaves ab).of_leaves (.doWhen _ (rescan_leaves (ab.aside a.2))),
    b.1.of_leaves (.doWhen _ (rescan_leaves b.2))⟩

/-- A resting lane of another slot is left as it is when a slot's lanes leave service. -/
theorem lanesOut_leaves {l : LaneId} {i : SlotId} (ha : l ≠ laneA i) (hb : l ≠ laneB i) {s : State} (h : Aside s l) :
    Leaves l s (lanesOut i s) := by
  have k := (takeOut_leaves ha s).trans (takeOut_leaves hb (takeOut (laneA i) s))
  unfold lanesOut
  exact k.trans (.doWhen _ (rescan_leaves (k.aside h)))

end Sys2Proof.Machine
end

