-- ==== Sys2Proof/Laws/Budget.lean ====
section
/-! SUPPORT. What a budget evaluation can do (R56): its frame, the slots it spares, and what it is while the floors fit the
pool. -/

namespace Sys2Proof.Machine

/-! ### The frame of the power path -/

/-- A step of SLC, PSQ, BDU and LXC together: nothing outside them but raises, the settings of all four kept, the supplies and
reserves kept, and the policy and demand fields of every slot outside `xs` kept. -/
structure PowerStep (xs : List SlotId) (s t : State) : Prop where
  quiet : Quiet [.slc, .psq, .bdu, .lxc] s t
  slots : ∀ j, j ∉ xs → SlotKept (s.slot j) (t.slot j)
  supplies : t.bdu.supplies = s.bdu.supplies
  policy : t.bdu.policy = s.bdu.policy
  fanReserve : t.bdu.fanReserve = s.bdu.fanReserve
  uplinkReserve : t.bdu.uplinkReserve = s.bdu.uplinkReserve
  group : t.psq.group = s.psq.group
  pause : t.psq.pause = s.psq.pause
  urgent : t.psq.urgent = s.psq.urgent
  queueSettings : t.psq.queueSettings = s.psq.queueSettings
  admission : t.psq.admission = s.psq.admission
  triggerOnSync : t.psq.triggerOnSync = s.psq.triggerOnSync
  prechargeTime : t.psq.prechargeTime = s.psq.prechargeTime
  inrushGap : t.psq.inrushGap = s.psq.inrushGap
  failback : t.lxc.failback = s.lxc.failback
  linkHold : t.lxc.linkHold = s.lxc.linkHold
  moveTime : t.lxc.moveTime = s.lxc.moveTime

theorem SlotKept.refl (r : SlotRec) : SlotKept r r := by constructor <;> rfl
theorem SlotKept.trans {a b c : SlotRec} (h : SlotKept a b) (k : SlotKept b c) : SlotKept a c where
  presence := k.presence.trans h.presence
  latchOpen := k.latchOpen.trans h.latchOpen
  tier := k.tier.trans h.tier
  autoPowerOn := k.autoPowerOn.trans h.autoPowerOn
  mayRequest := k.mayRequest.trans h.mayRequest
  hold := k.hold.trans h.hold
  zone := k.zone.trans h.zone
  shutdownTimeout := k.shutdownTimeout.trans h.shutdownTimeout
  resetDelay := k.resetDelay.trans h.resetDelay
  resetWidth := k.resetWidth.trans h.resetWidth
  m := k.m.trans h.m
  c := k.c.trans h.c
  lastStopForced := k.lastStopForced.trans h.lastStopForced
  debounce := k.debounce.trans h.debounce
  announceTimer := k.announceTimer.trans h.announceTimer

theorem PowerStep.refl (xs : List SlotId) (s : State) : PowerStep xs s s :=
  ⟨.refl _ s, fun _ _ => .refl _, rfl, rfl, rfl, rfl, rfl, rfl, rfl, rfl, rfl, rfl, rfl, rfl, rfl, rfl, rfl⟩

theorem PowerStep.trans {xs : List SlotId} {s t u : State} (h : PowerStep xs s t) (k : PowerStep xs t u) :
    PowerStep xs s u where
  quiet := h.quiet.trans k.quiet
  slots j hj := (h.slots j hj).trans (k.slots j hj)
  supplies := k.supplies.trans h.supplies
  policy := k.policy.trans h.policy
  fanReserve := k.fanReserve.trans h.fanReserve
  uplinkReserve := k.uplinkReserve.trans h.uplinkReserve
  group := k.group.trans h.group
  pause := k.pause.trans h.pause
  urgent := k.urgent.trans h.urgent
  queueSettings := k.queueSettings.trans h.queueSettings
  admission := k.admission.trans h.admission
  triggerOnSync := k.triggerOnSync.trans h.triggerOnSync
  prechargeTime := k.prechargeTime.trans h.prechargeTime
  inrushGap := k.inrushGap.trans h.inrushGap
  failback := k.failback.trans h.failback
  linkHold := k.linkHold.trans h.linkHold
  moveTime := k.moveTime.trans h.moveTime

theorem PowerStep.mono {xs ys : List SlotId} {s t : State} (h : PowerStep xs s t) (hs : xs ⊆ ys) : PowerStep ys s t :=
  { h with slots := fun j hj => h.slots j fun hx => hj (hs hx) }

theorem PowerStep.foldl {α : Type} {xs : List SlotId} {f : State → α → State} (h : ∀ s a, PowerStep xs s (f s a))
    (l : List α) (s : State) : PowerStep xs s (l.foldl f s) := by
  induction l generalizing s with
  | nil => exact .refl xs s
  | cons a l ih => exact (h s a).trans (ih (f s a))

theorem PowerStep.doWhen {xs : List SlotId} {f : State → State} (c : Bool) {s : State} (h : PowerStep xs s (f s)) :
    PowerStep xs s (doWhen c f s) := by
  cases c
  · exact .refl xs s
  · exact h

/-- A raise is no step of the power path. -/
theorem raise_power (xs : List SlotId) (c : Cond) (ports : BitVec 16) (s : State) : PowerStep xs s (raise c ports s) := by
  constructor <;> first | exact raise_quiet _ c ports s | simp [State.slot, SlotKept.refl]

/-- Calling for a round is a step of the power path. -/
theorem callRound_power (xs : List SlotId) (s : State) : PowerStep xs s (callRound s) := by
  constructor <;> first | exact callRound_quiet _ s | simp [State.slot, SlotKept.refl]

/-- Work on a slot of `xs`. -/
theorem modSlot_power {xs : List SlotId} {i : SlotId} (hi : i ∈ xs) (f : SlotRec → SlotRec) (s : State) :
    PowerStep xs s (s.modSlot i f) := by
  constructor <;> try rfl
  · exact (modSlot_quiet i f s).mono (by simp)
  · intro j hj
    have : j ≠ i := fun e => hj (e ▸ hi)
    simp [modSlot_slot, this, SlotKept.refl]

/-- Work on any slot that keeps its policy and demand fields. -/
theorem modSlot_power_kept (xs : List SlotId) (i : SlotId) (f : SlotRec → SlotRec) (s : State)
    (hf : SlotKept (s.slot i) (f (s.slot i))) : PowerStep xs s (s.modSlot i f) := by
  constructor <;> try rfl
  · exact (modSlot_quiet i f s).mono (by simp)
  · intro j _
    rw [modSlot_slot]
    split
    · rename_i e; exact e ▸ hf
    · exact .refl _

/-- A change of state is a step of the power path. -/
theorem enter_power (xs : List SlotId) (i : SlotId) (st : SlotState) (s : State) : PowerStep xs s (enter i st s) :=
  (modSlot_power_kept xs i _ s (by constructor <;> rfl)).trans (raise_power xs _ _ _)

theorem LaneStep.power {s t : State} (xs : List SlotId) (h : LaneStep s t) : PowerStep xs s t := by
  have e := h.quiet.frame
  have hs : t.slots = s.slots := e.slc.resolve_left (by decide)
  have hp : t.psq.settled = s.psq.settled := e.psq.resolve_left (by decide)
  have hb : t.bdu = s.bdu := e.bdu.resolve_left (by decide)
  simp only [Psq.settled, Psq.mk.injEq] at hp
  refine ⟨h.quiet.mono (by simp), fun j _ => ?_, by rw [hb], by rw [hb], by rw [hb], by rw [hb], ?_, ?_, ?_, ?_, ?_, ?_, ?_, ?_,
    h.failback, h.linkHold, h.moveTime⟩
  · simp [State.slot, hs, SlotKept.refl]
  all_goals simp [hp]

/-! ### The steps of an evaluation -/

theorem leaveOn_kept (r : SlotRec) : SlotKept r (leaveOn r) := by constructor <;> rfl
theorem unpower_kept (r : SlotRec) : SlotKept r (unpower r) := by constructor <;> rfl

theorem startStop_power (i : SlotId) (reason : StopReason) (deadline : Nat) (s : State) :
    PowerStep [] s (startStop i reason deadline s) :=
  ((modSlot_power_kept [] i _ s (by constructor <;> rfl)).trans (enter_power [] i _ _)).trans (raise_power [] _ _ _)

theorem stopVictim_power (s : State) (i : SlotId) : PowerStep [] s (stopVictim s i) :=
  (modSlot_power_kept [] i _ s (by constructor <;> rfl)).trans (startStop_power i _ _ _)

theorem relabelVictim_power (s : State) (i : SlotId) : PowerStep [] s (relabelVictim s i) :=
  (modSlot_power_kept [] i _ s (by constructor <;> rfl)).trans (raise_power [] _ _ _)

/-- A change of PSQ that keeps its settings is a step of the power path. -/
theorem psq_power {xs : List SlotId} (s : State) (p : Psq) (h : p.group = s.psq.group ∧ p.pause = s.psq.pause
    ∧ p.urgent = s.psq.urgent ∧ p.queueSettings = s.psq.queueSettings ∧ p.admission = s.psq.admission
    ∧ p.triggerOnSync = s.psq.triggerOnSync ∧ p.prechargeTime = s.psq.prechargeTime ∧ p.inrushGap = s.psq.inrushGap) :
    PowerStep xs s { s with psq := p } := by
  obtain ⟨h1, h2, h3, h4, h5, h6, h7, h8⟩ := h
  refine ⟨.of_lnk (by constructor <;> first | exact .inl (by decide) | exact .inr rfl) rfl, fun _ _ => .refl _, rfl, rfl, rfl,
    rfl, h1, h2, h3, h4, h5, h6, h7, h8, rfl, rfl, rfl⟩

/-- A change of BDU that keeps its policy, supplies and reserves is a step of the power path. -/
theorem bdu_power {xs : List SlotId} (s : State) (b : Bdu) (h : b.supplies = s.bdu.supplies ∧ b.policy = s.bdu.policy
    ∧ b.fanReserve = s.bdu.fanReserve ∧ b.uplinkReserve = s.bdu.uplinkReserve) :
    PowerStep xs s { s with bdu := b } := by
  obtain ⟨h1, h2, h3, h4⟩ := h
  exact ⟨.of_lnk (by constructor <;> first | exact .inl (by decide) | exact .inr rfl) rfl, fun _ _ => .refl _, h1, h2, h3, h4,
    rfl, rfl, rfl, rfl, rfl, rfl, rfl, rfl, rfl, rfl, rfl⟩

theorem returnToSource_settings (i : SlotId) (src : Source) (n : Bool) (p : Psq) :
    (returnToSource i src n p).group = p.group ∧ (returnToSource i src n p).pause = p.pause
    ∧ (returnToSource i src n p).urgent = p.urgent ∧ (returnToSource i src n p).queueSettings = p.queueSettings
    ∧ (returnToSource i src n p).admission = p.admission ∧ (returnToSource i src n p).triggerOnSync = p.triggerOnSync
    ∧ (returnToSource i src n p).prechargeTime = p.prechargeTime ∧ (returnToSource i src n p).inrushGap = p.inrushGap := by
  cases src <;> simp [returnToSource]

theorem abortPrecharge_power (i : SlotId) (src : Source) (n : Bool) (s : State) :
    PowerStep [] s (abortPrecharge i src n s) := by
  unfold abortPrecharge
  refine (((modSlot_power_kept [] i _ s (by constructor <;> rfl)).trans (enter_power [] i _ _)).trans
    ((lanesOut_laneStep i _).power [])).trans ((psq_power _ _ ?_).trans (callRound_power [] _))
  exact returnToSource_settings i src n _

theorem releaseFloor_power (i : SlotId) (s : State) : PowerStep [] s (releaseFloor i s) :=
  (modSlot_power_kept [] i _ s (by constructor <;> rfl)).trans (bdu_power _ _ (by simp))

theorem runPass_power (s : State) : PowerStep [] s (runPass s) := by
  unfold runPass
  constructor <;> try rfl
  · exact .of_lnk (by constructor <;> first | exact .inl (by decide) | exact .inr rfl) rfl
  · intro j _
    simp only [State.slot, get_tabulate]
    constructor <;> rfl

theorem shedAbort_power (s : State) : PowerStep [] s (shedAbort s).1 := by
  unfold shedAbort
  split
  · split
    · exact (abortPrecharge_power _ _ _ s).trans (releaseFloor_power _ _)
    · exact .refl [] s
  · exact .refl [] s

theorem nameAndStop_power (aborted : List SlotId) (s : State) : PowerStep [] s (nameAndStop aborted s) := by
  unfold nameAndStop
  exact (((PowerStep.foldl stopVictim_power _ s).trans (.foldl relabelVictim_power _ _)).trans (bdu_power _ _ (by simp))).trans
    (.doWhen _ (raise_power [] _ _ _))

theorem shedSelection_power (s : State) : PowerStep [] s (shedSelection s) := by
  unfold shedSelection
  split
  · exact .refl [] s
  · exact (shedAbort_power s).trans (nameAndStop_power _ _)

theorem capPass_power (s : State) : PowerStep [] s (capPass s) := by
  unfold capPass
  split
  · exact runPass_power s
  · exact ((runPass_power s).trans (shedSelection_power _)).trans (runPass_power _)

theorem raiseCapChanges_power (before s : State) : PowerStep [] s (raiseCapChanges before s) := by
  unfold raiseCapChanges
  exact .doWhen _ (raise_power [] _ _ _)

theorem takeSide_power (s : State) : PowerStep [] s (takeSide s) := by
  unfold takeSide
  dsimp only
  split <;> split <;>
    first | exact bdu_power _ _ (by simp) | exact (bdu_power s _ (by simp)).trans (raise_power [] _ _ _)

theorem takeRedundancy_power (s : State) : PowerStep [] s (takeRedundancy s) := by
  unfold takeRedundancy
  split
  · exact .refl [] s
  · exact (bdu_power s _ (by simp)).trans (raise_power [] _ _ _)

/-- An evaluation is a step of the power path (R56). -/
theorem evaluate_power (before : Int) (s : State) : PowerStep [] s (evaluate before s) := by
  unfold evaluate
  exact (((capPass_power s).trans (raiseCapChanges_power s _)).trans (takeSide_power _)).trans
    ((takeRedundancy_power _).trans (.doWhen _ (callRound_power [] _)))

theorem reevaluate_power (s : State) : PowerStep [] s (reevaluate s) := evaluate_power _ s

/-! ### The slots an evaluation spares -/

/-- A step that leaves a slot as it is in every block of the power path, where its lanes stand aside. -/
structure Spares (i : SlotId) (s t : State) : Prop where
  slot : t.slot i = s.slot i
  floor : t.bdu.floors.get i = s.bdu.floors.get i
  shed : i ∉ s.bdu.shedSet → i ∉ t.bdu.shedSet
  laneA : Aside s (laneA i) → Leaves (laneA i) s t
  laneB : Aside s (laneB i) → Leaves (laneB i) s t

theorem Spares.refl (i : SlotId) (s : State) : Spares i s s := ⟨rfl, rfl, id, fun _ => .refl _ s, fun _ => .refl _ s⟩
theorem Spares.trans {i : SlotId} {s t u : State} (h : Spares i s t) (k : Spares i t u) : Spares i s u :=
  ⟨k.slot.trans h.slot, k.floor.trans h.floor, k.shed ∘ h.shed,
   fun a => (h.laneA a).trans (k.laneA ((h.laneA a).aside a)),
   fun b => (h.laneB b).trans (k.laneB ((h.laneB b).aside b))⟩
theorem Spares.doWhen {i : SlotId} {f : State → State} (c : Bool) {s : State} (h : Spares i s (f s)) :
    Spares i s (doWhen c f s) := by
  cases c
  · exact .refl i s
  · exact h

/-- A step that leaves the slots, the floors, the shed set and LXC alone spares every slot. -/
theorem Spares.of_eq {i : SlotId} {s t : State} (h1 : t.slots = s.slots) (h2 : t.bdu.floors = s.bdu.floors)
    (h3 : t.bdu.shedSet = s.bdu.shedSet) (h4 : t.lxc = s.lxc) : Spares i s t :=
  ⟨by simp [State.slot, h1], by rw [h2], by rw [h3]; exact id, fun _ => .of_lxc h4, fun _ => .of_lxc h4⟩

theorem raise_spares (i : SlotId) (c : Cond) (ports : BitVec 16) (s : State) : Spares i s (raise c ports s) :=
  .of_eq (by simp) (by simp) (by simp) (by simp)

theorem callRound_spares (i : SlotId) (s : State) : Spares i s (callRound s) := .of_eq rfl rfl rfl rfl

theorem modSlot_spares {i j : SlotId} (h : i ≠ j) (f : SlotRec → SlotRec) (s : State) : Spares i s (s.modSlot j f) :=
  ⟨by simp [modSlot_slot, h], rfl, id, fun _ => .of_lxc rfl, fun _ => .of_lxc rfl⟩

theorem enter_spares {i j : SlotId} (h : i ≠ j) (st : SlotState) (s : State) : Spares i s (enter j st s) :=
  (modSlot_spares h _ s).trans (raise_spares i _ _ _)

theorem startStop_spares {i j : SlotId} (h : i ≠ j) (reason : StopReason) (deadline : Nat) (s : State) :
    Spares i s (startStop j reason deadline s) :=
  ((modSlot_spares h _ s).trans (enter_spares h _ _)).trans (raise_spares i _ _ _)

theorem stopVictim_spares {i j : SlotId} (h : i ≠ j) (s : State) : Spares i s (stopVictim s j) :=
  (modSlot_spares h _ s).trans (startStop_spares h _ _ _)

theorem relabelVictim_spares {i j : SlotId} (h : i ≠ j) (s : State) : Spares i s (relabelVictim s j) :=
  (modSlot_spares h _ s).trans (raise_spares i _ _ _)

theorem lanes_of_other {i j : SlotId} (h : i ≠ j) :
    laneA i ≠ laneA j ∧ laneA i ≠ laneB j ∧ laneB i ≠ laneA j ∧ laneB i ≠ laneB j := by
  simp only [laneA, laneB, Fin.ext_iff, ne_eq] at *
  omega

theorem lanesOut_spares {i j : SlotId} (h : i ≠ j) (s : State) : Spares i s (lanesOut j s) := by
  have e := (lanesOut_laneStep j s).quiet.frame
  have hs : (lanesOut j s).slots = s.slots := e.slc.resolve_left (by decide)
  have hb : (lanesOut j s).bdu = s.bdu := e.bdu.resolve_left (by decide)
  have n := lanes_of_other h
  exact ⟨by simp [State.slot, hs], by rw [hb], by rw [hb]; exact id, fun a => lanesOut_leaves n.1 n.2.1 a,
    fun b => lanesOut_leaves n.2.2.1 n.2.2.2 b⟩

theorem abortPrecharge_spares {i j : SlotId} (h : i ≠ j) (src : Source) (n : Bool) (s : State) :
    Spares i s (abortPrecharge j src n s) := by
  unfold abortPrecharge
  exact (((modSlot_spares h _ s).trans (enter_spares h _ _)).trans (lanesOut_spares h _)).trans (.of_eq rfl rfl rfl rfl)

theorem releaseFloor_spares {i j : SlotId} (h : i ≠ j) (s : State) : Spares i s (releaseFloor j s) := by
  refine ⟨?_, ?_, id, fun _ => .of_lxc rfl, fun _ => .of_lxc rfl⟩
  · exact (modSlot_spares h (fun r => { r with cap := 0 }) s).slot
  · simp [releaseFloor, h]

theorem runPass_spares {i : SlotId} {s : State} (h : (s.slot i).state.powered = false) : Spares i s (runPass s) := by
  have hl : (runPass s).lxc = s.lxc := by simp [runPass]
  refine ⟨?_, by simp [runPass], by simp [runPass], fun _ => .of_lxc hl, fun _ => .of_lxc hl⟩
  have : passCap s i = none := by
    unfold passCap
    cases e : (s.slot i).state <;> simp_all [SlotState.powered]
  simp [runPass, State.slot, this]

/-- Naming victims names candidates. -/
theorem nameVictims_subset (floor : SlotId → Nat) (b : Nat) (l : List SlotId) (left : Nat) :
    (nameVictims floor b l left).1 ⊆ l := by
  induction l generalizing left with
  | nil => simp [nameVictims]
  | cons i l ih =>
    unfold nameVictims
    split
    · simp
    · split
      · exact List.subset_cons_of_subset _ (ih left)
      · intro j hj
        rcases List.mem_cons.1 hj with e | hj
        · simp [e]
        · exact List.mem_cons_of_mem _ (ih _ hj)

/-- Shed order lists the slots that meet its test. -/
theorem mem_shedOrder {s : State} {p : SlotRec → Bool} {i : SlotId} (h : i ∈ shedOrder s p) : p (s.slot i) = true := by
  simp only [shedOrder, List.mem_flatMap, List.mem_filter, Bool.and_eq_true] at h
  obtain ⟨_, _, _, h, _⟩ := h
  exact h

theorem Spares.foldl {i : SlotId} {f : State → SlotId → State} (hf : ∀ s j, i ≠ j → Spares i s (f s j)) (l : List SlotId)
    (hl : i ∉ l) (s : State) : Spares i s (l.foldl f s) := by
  induction l generalizing s with
  | nil => exact .refl i s
  | cons j l ih =>
    simp only [List.mem_cons, not_or] at hl
    exact (hf s j hl.1).trans (ih hl.2 _)

theorem shedAbort_spares {i : SlotId} {s : State} (h : (s.slot i).state.powered = false) : Spares i s (shedAbort s).1 := by
  unfold shedAbort
  split
  · rename_i j src n left e
    split
    · rename_i hp
      have hij : i ≠ j := fun e => by subst e; simp [hp, SlotState.powered] at h
      exact (abortPrecharge_spares hij src n s).trans (releaseFloor_spares hij _)
    · exact .refl i s
  · exact .refl i s

theorem nameAndStop_spares {i : SlotId} {s : State} (aborted : List SlotId) (h : (s.slot i).state.powered = false) :
    Spares i s (nameAndStop aborted s) := by
  unfold nameAndStop
  dsimp only
  generalize hon : nameVictims (committedFloor s) (pool s) (shedOrder s fun r => r.state == .on) (uncoveredFloors s) = on
  generalize hre : nameVictims (committedFloor s) (pool s) (shedOrder s relabelCandidate) on.2 = re
  have h1 : i ∉ on.1 := fun hi => by
    rw [← hon] at hi
    have := mem_shedOrder (nameVictims_subset _ _ _ _ hi)
    simp only [beq_iff_eq] at this
    simp [this, SlotState.powered] at h
  have h2 : i ∉ re.1 := fun hi => by
    rw [← hre] at hi
    have := mem_shedOrder (nameVictims_subset _ _ _ _ hi)
    simp only [relabelCandidate, Bool.and_eq_true, beq_iff_eq] at this
    simp [this.1, SlotState.powered] at h
  refine ((Spares.foldl (fun s j hj => stopVictim_spares hj s) on.1 h1 s).trans
    (.foldl (fun s j hj => relabelVictim_spares hj s) re.1 h2 _)).trans (.trans ?_ (.doWhen _ (raise_spares i _ _ _)))
  exact ⟨rfl, rfl, fun k => by simp [k, h1, h2], fun _ => .of_lxc rfl, fun _ => .of_lxc rfl⟩

theorem shedSelection_spares {i : SlotId} {s : State} (h : (s.slot i).state.powered = false) :
    Spares i s (shedSelection s) := by
  unfold shedSelection
  split
  · exact .refl i s
  · have k := shedAbort_spares h
    exact k.trans (nameAndStop_spares _ (by rw [k.slot]; exact h))

theorem capPass_spares {i : SlotId} {s : State} (h : (s.slot i).state.powered = false) : Spares i s (capPass s) := by
  unfold capPass
  split
  · exact runPass_spares h
  · have k1 := runPass_spares h
    have k2 := shedSelection_spares (s := runPass s) (i := i) (by rw [k1.slot]; exact h)
    exact (k1.trans k2).trans (runPass_spares (by rw [(k1.trans k2).slot]; exact h))

theorem takeSide_spares (i : SlotId) (s : State) : Spares i s (takeSide s) := by
  unfold takeSide
  dsimp only
  split <;> split <;> exact .of_eq (by simp) (by simp) (by simp) (by simp)

theorem takeRedundancy_spares (i : SlotId) (s : State) : Spares i s (takeRedundancy s) := by
  unfold takeRedundancy
  split
  · exact .refl i s
  · exact .of_eq (by simp) (by simp) (by simp) (by simp)

/-- An evaluation spares every slot without power. -/
theorem evaluate_spares {i : SlotId} (before : Int) {s : State} (h : (s.slot i).state.powered = false) :
    Spares i s (evaluate before s) := by
  unfold evaluate raiseCapChanges
  exact (((capPass_spares h).trans (.doWhen _ (raise_spares i _ _ _))).trans (takeSide_spares i _)).trans
    ((takeRedundancy_spares i _).trans (.doWhen _ (callRound_spares i _)))

end Sys2Proof.Machine
end

