-- ==== Sys2Proof/Laws/Operands.lean ====
section
/-! SUPPORT. What a read listens to of a block, how a transmission is cut into frames, and when a power reading changes a
slot. -/

namespace Sys2Proof.Machine

/-- What a read listens to is a first part of what the module sends: the length the header gives, or five bytes where it gives
none (R181). -/
theorem heardBlock_some {block heard : List Byte} (h : heardBlock block = some heard) :
    5 ≤ block.length ∧ ∃ n ≤ block.length, heard = block.take n
      ∧ n = if headerGood (byteAt block 0) (byteAt block 4) then blockLength (byteAt block 0) (byteAt block 4) else 5 := by
  unfold heardBlock at h
  generalize (if headerGood (byteAt block 0) (byteAt block 4) then blockLength (byteAt block 0) (byteAt block 4) else 5)
    = n at h ⊢
  simp only [Option.ite_none_left_eq_some, not_or, Nat.not_lt, Option.some.injEq] at h
  exact ⟨h.1.1, n, h.1.2, h.2.symm, rfl⟩

/-- One frame for every 60 bytes, and a last one for the bytes left, if any (R161). -/
@[simp] theorem responseRun_length (kind : Byte) (o : OutcomeCode) (payload : List Byte) :
    (responseRun kind o payload).length = payload.length / maxPayload + 1 := by simp [responseRun]

/-- A frame is its kind, its outcome, its length, its payload and its check. -/
theorem responseFrame_length (kind : Byte) (o : OutcomeCode) (payload : List Byte) :
    (responseFrame kind o payload).length = payload.length + 4 := by simp [responseFrame]

/-- Every transmission puts at least one frame on the link. -/
theorem frames_ne_nil (x : Transmission) : x.frames ≠ [] := by
  cases x <;> exact List.ne_nil_of_length_pos (by simp [Transmission.frames])

/-- A reading that is not FRESH in the delivery leaves the slot as it is (R18). -/
theorem judgePower_of_not_fresh {x : Reading} {r : SlotRec} (h : x.state ≠ .fresh) : judgePower x r = r := by
  cases r.state <;> simp [judgePower, freshValue, h]

/-- A power reading writes the violation count and the throttle line alone. -/
theorem judgePower_eq (x : Reading) (r : SlotRec) :
    judgePower x r = { r with violations := (judgePower x r).violations, throttle := (judgePower x r).throttle } := by
  unfold judgePower
  repeat' split
  all_goals rfl

end Sys2Proof.Machine
end

