-- ==== Sys2Proof/WellFormed.lean ====
section
/-! DEFINITION. Which commands are well formed: the checks the links, the identity bus and the payload lengths of section
10.7 make before a command can exist; and the catalogue kind of each service. -/

namespace Sys2Proof

open Machine

/-- The kind of the request a service serves (section 10.7); none for an arrival, a line change, an expiry or a delivery. -/
def Instr.kind : Instr → Option Byte
  | .announce _ => some 1
  | .requestPowerOn => some 2
  | .releasePower => some 3
  | .reportDemand _ _ => some 4
  | .readOwnSlot => some 5
  | .selectConditions _ _ => some 16
  | .fetchNotices => some 17
  | .readChassisSummary => some 18
  | .readSlot _ => some 32
  | .readSupply _ => some 33
  | .readBudget => some 34
  | .readSequencer => some 35
  | .readZone _ => some 36
  | .readFan _ => some 37
  | .readSensor _ => some 38
  | .readLane _ => some 39
  | .readBay _ => some 40
  | .readInventoryRecord _ => some 41
  | .claimPrimacy _ => some 42
  | .releasePrimacy => some 43
  | .scanNow => some 44
  | .setBudgetPolicy _ => some 64
  | .setSlotPolicy _ _ => some 65
  | .setSlotHold _ _ => some 66
  | .setSlotZoneMap _ => some 67
  | .powerOnNow _ _ => some 68
  | .queuePowerOn _ => some 69
  | .stepSequence => some 70
  | .editAdmissionGroup _ _ => some 71
  | .loadAdmissionGroup _ => some 72
  | .configureSequencer _ => some 73
  | .pauseSequencer _ => some 74
  | .removeNext _ => some 75
  | .flushSource _ => some 76
  | .powerOff _ => some 77
  | .forceOff _ => some 78
  | .pulseReset _ => some 79
  | .clearFault _ => some 80
  | .setZoneCurve _ _ => some 81
  | .setZoneLimits _ _ => some 82
  | .characteriseFan _ => some 83
  | .stopCharacterisation => some 84
  | .clearFanFault _ => some 85
  | .clearThermalTrip => some 86
  | .setScan _ _ => some 87
  | .editChannelSet _ _ => some 88
  | .setLanePreference _ _ _ => some 89
  | .editLaneEnable _ _ => some 90
  | .setFailback _ => some 91
  | .setLinkHold _ => some 92
  | .setMoveTime _ => some 93
  | .rereadIdentity _ => some 94
  | .loadServiceTable _ _ => some 95
  | .swapServiceTable => some 96
  | .setPortPriority _ => some 97
  | .postNotice _ => some 98
  | .restartController => some 99
  | .requestFrame _ _ | .overlongLengthDiscard _ _ _ | .interByteTimeout _ | .take | .responseSent _ _
  | .primacyPeriodExpiry | .powerOn _ | .resetInputAsserted | .resetInputDeasserted _ | .resetInputHeld1s _
  | .presenceAsserted _ | .debounceExpiry _ | .announceTimerExpiry _ | .surpriseExtraction _ | .latchOpens _
  | .latchCloses _ | .overcurrentAsserted _ | .powerGoodLost _ | .stopDeadlineExpiry _ | .resetDelayExpiry _
  | .resetWidthExpiry _ | .slcScanDelivery | .prechargeExpiry | .inrushGapExpiry | .syncFallingEdge
  | .supplyPresentAsserted _ | .supplyPresentDeasserted _ | .outputGoodChange _ _ | .thermalFactorReport
  | .periodTimerExpiry | .channelReadEnd _ | .controlStep | .thermalTripInputAsserted | .fanStrapChange _ _
  | .tachEdge _ _ | .tachOverflow _ | .settleTimerExpiry | .uplinkPresentAsserted _ | .uplinkPresentDeasserted _
  | .moduleFaultAsserted _ | .linkUpAsserted _ | .linkUpDeasserted _ | .linkHoldExpiry _ | .moveCompletion _
  | .identityReadEnd _ | .identityReadTimeout | .identityHeaderReject _ _ | .moduleFaultDeasserted _
  | .thermalTripInputDeasserted | .overcurrentDeasserted _ | .powerGoodAsserted _ | .busyAnswerSent _ => none

/-- Whether a command's operands are ones its frame, bus or list can carry: a serial that fits its payload (R179), a demand
that fits two bytes (R22), 1–14 places (R30), 1–16 entries (R165), a frame that is one whole frame (R159), a length byte
above 60 (R159), a whole identity block (R181), and a header that gives no length (R181). -/
def Instr.wellFormed : Instr → Bool
  | .announce a => decide (a.serial.length ≤ 49)
  | .reportDemand m _ => decide (m < 65536)
  | .queuePowerOn places => decide (1 ≤ places.length ∧ places.length ≤ 14)
  | .loadServiceTable _ entries => decide (1 ≤ entries.length ∧ entries.length ≤ 16)
  | .requestFrame _ frame => (frameParts frame).isSome
  | .overlongLengthDiscard _ _ length => decide (maxPayload < length.toNat)
  | .identityReadEnd block => blockWhole block
  | .identityHeaderReject kind serialLength => !headerGood kind serialLength
  | _ => true

end Sys2Proof
end

