-- ==== Sys2Proof/Laws/PerInstr.lean ====
section
/-! SUPPORT. The per-command family: the kind of every service is in the catalogue of section 10.7, so a request of that kind
can pass the arrival checks (R160). -/

namespace Sys2Proof.Laws

/-- The kind of a command, if it is a service, has an authority class. -/
def Catalogued.Statement (i : Instr) : Prop := ∀ k, i.kind = some k → (Machine.authorityOf k).isSome = true

theorem catalogued_none {i : Instr} (h : i.kind = none) : Catalogued.Statement i := fun k hk => by
  rw [h] at hk
  cases hk

theorem catalogued_some {i : Instr} {k : Byte} (h : i.kind = some k) (hk : (Machine.authorityOf k).isSome = true) :
    Catalogued.Statement i := fun _ h' => by
  rw [h] at h'
  cases h'
  exact hk

theorem Catalogued.announce (a : AnnounceArgs) : Catalogued.Statement (.announce a) := catalogued_some rfl (by decide)
theorem Catalogued.requestPowerOn : Catalogued.Statement .requestPowerOn := catalogued_some rfl (by decide)
theorem Catalogued.releasePower : Catalogued.Statement .releasePower := catalogued_some rfl (by decide)
theorem Catalogued.reportDemand (m : Nat) (c : Byte) : Catalogued.Statement (.reportDemand m c) :=
  catalogued_some rfl (by decide)
theorem Catalogued.readOwnSlot : Catalogued.Statement .readOwnSlot := catalogued_some rfl (by decide)
theorem Catalogued.selectConditions (set clear : BitVec 16) : Catalogued.Statement (.selectConditions set clear) :=
  catalogued_some rfl (by decide)
theorem Catalogued.fetchNotices : Catalogued.Statement .fetchNotices := catalogued_some rfl (by decide)
theorem Catalogued.readChassisSummary : Catalogued.Statement .readChassisSummary := catalogued_some rfl (by decide)
theorem Catalogued.readSlot (slot : Byte) : Catalogued.Statement (.readSlot slot) := catalogued_some rfl (by decide)
theorem Catalogued.readSupply (bay : Byte) : Catalogued.Statement (.readSupply bay) := catalogued_some rfl (by decide)
theorem Catalogued.readBudget : Catalogued.Statement .readBudget := catalogued_some rfl (by decide)
theorem Catalogued.readSequencer : Catalogued.Statement .readSequencer := catalogued_some rfl (by decide)
theorem Catalogued.readZone (zone : Byte) : Catalogued.Statement (.readZone zone) := catalogued_some rfl (by decide)
theorem Catalogued.readFan (bay : Byte) : Catalogued.Statement (.readFan bay) := catalogued_some rfl (by decide)
theorem Catalogued.readSensor (selector : Byte) : Catalogued.Statement (.readSensor selector) :=
  catalogued_some rfl (by decide)
theorem Catalogued.readLane (selector : Byte) : Catalogued.Statement (.readLane selector) := catalogued_some rfl (by decide)
theorem Catalogued.readBay (selector : Byte) : Catalogued.Statement (.readBay selector) := catalogued_some rfl (by decide)
theorem Catalogued.readInventoryRecord (selector : Byte) : Catalogued.Statement (.readInventoryRecord selector) :=
  catalogued_some rfl (by decide)
theorem Catalogued.claimPrimacy (period : Option Byte) : Catalogued.Statement (.claimPrimacy period) :=
  catalogued_some rfl (by decide)
theorem Catalogued.releasePrimacy : Catalogued.Statement .releasePrimacy := catalogued_some rfl (by decide)
theorem Catalogued.scanNow : Catalogued.Statement .scanNow := catalogued_some rfl (by decide)
theorem Catalogued.setBudgetPolicy (p : BudgetArgs) : Catalogued.Statement (.setBudgetPolicy p) :=
  catalogued_some rfl (by decide)
theorem Catalogued.setSlotPolicy (slot : Byte) (p : SlotPolicyArgs) : Catalogued.Statement (.setSlotPolicy slot p) :=
  catalogued_some rfl (by decide)
theorem Catalogued.setSlotHold (slot : Byte) (hold : FlagArg) : Catalogued.Statement (.setSlotHold slot hold) :=
  catalogued_some rfl (by decide)
theorem Catalogued.setSlotZoneMap (zones : Vector Byte 14) : Catalogued.Statement (.setSlotZoneMap zones) :=
  catalogued_some rfl (by decide)
theorem Catalogued.powerOnNow (slot : Byte) (notify : FlagArg) : Catalogued.Statement (.powerOnNow slot notify) :=
  catalogued_some rfl (by decide)
theorem Catalogued.queuePowerOn (places : List PlaceArg) : Catalogued.Statement (.queuePowerOn places) :=
  catalogued_some rfl (by decide)
theorem Catalogued.stepSequence : Catalogued.Statement .stepSequence := catalogued_some rfl (by decide)
theorem Catalogued.editAdmissionGroup (set clear : BitVec 16) : Catalogued.Statement (.editAdmissionGroup set clear) :=
  catalogued_some rfl (by decide)
theorem Catalogued.loadAdmissionGroup (mode : LoadModeArg) : Catalogued.Statement (.loadAdmissionGroup mode) :=
  catalogued_some rfl (by decide)
theorem Catalogued.configureSequencer (p : SequencerArgs) : Catalogued.Statement (.configureSequencer p) :=
  catalogued_some rfl (by decide)
theorem Catalogued.pauseSequencer (pause : FlagArg) : Catalogued.Statement (.pauseSequencer pause) :=
  catalogued_some rfl (by decide)
theorem Catalogued.removeNext (source : SourceArg) : Catalogued.Statement (.removeNext source) :=
  catalogued_some rfl (by decide)
theorem Catalogued.flushSource (source : SourceArg) : Catalogued.Statement (.flushSource source) :=
  catalogued_some rfl (by decide)
theorem Catalogued.powerOff (slot : Byte) : Catalogued.Statement (.powerOff slot) := catalogued_some rfl (by decide)
theorem Catalogued.forceOff (slot : Byte) : Catalogued.Statement (.forceOff slot) := catalogued_some rfl (by decide)
theorem Catalogued.pulseReset (slot : Byte) : Catalogued.Statement (.pulseReset slot) := catalogued_some rfl (by decide)
theorem Catalogued.clearFault (slot : Byte) : Catalogued.Statement (.clearFault slot) := catalogued_some rfl (by decide)
theorem Catalogued.setZoneCurve (zone : Byte) (points : Vector PointArg 4) : Catalogued.Statement (.setZoneCurve zone points) :=
  catalogued_some rfl (by decide)
theorem Catalogued.setZoneLimits (zone : Byte) (limits : ZoneLimitArgs) : Catalogued.Statement (.setZoneLimits zone limits) :=
  catalogued_some rfl (by decide)
theorem Catalogued.characteriseFan (bay : Byte) : Catalogued.Statement (.characteriseFan bay) :=
  catalogued_some rfl (by decide)
theorem Catalogued.stopCharacterisation : Catalogued.Statement .stopCharacterisation := catalogued_some rfl (by decide)
theorem Catalogued.clearFanFault (bay : Byte) : Catalogued.Statement (.clearFanFault bay) := catalogued_some rfl (by decide)
theorem Catalogued.clearThermalTrip : Catalogued.Statement .clearThermalTrip := catalogued_some rfl (by decide)
theorem Catalogued.setScan (source : ScanSourceArg) (period : Nat) : Catalogued.Statement (.setScan source period) :=
  catalogued_some rfl (by decide)
theorem Catalogued.editChannelSet (set clear : BitVec 24) : Catalogued.Statement (.editChannelSet set clear) :=
  catalogued_some rfl (by decide)
theorem Catalogued.setLanePreference (lane count : Byte) (bays : Vector Byte 4) : Catalogued.Statement (.setLanePreference lane count bays) :=
  catalogued_some rfl (by decide)
theorem Catalogued.editLaneEnable (set clear : BitVec 32) : Catalogued.Statement (.editLaneEnable set clear) :=
  catalogued_some rfl (by decide)
theorem Catalogued.setFailback (failback : FlagArg) : Catalogued.Statement (.setFailback failback) :=
  catalogued_some rfl (by decide)
theorem Catalogued.setLinkHold (hold : BitVec 16) : Catalogued.Statement (.setLinkHold hold) :=
  catalogued_some rfl (by decide)
theorem Catalogued.setMoveTime (time : Byte) : Catalogued.Statement (.setMoveTime time) := catalogued_some rfl (by decide)
theorem Catalogued.rereadIdentity (record : Byte) : Catalogued.Statement (.rereadIdentity record) :=
  catalogued_some rfl (by decide)
theorem Catalogued.loadServiceTable (bank : Byte) (entries : List EntryArg) : Catalogued.Statement (.loadServiceTable bank entries) :=
  catalogued_some rfl (by decide)
theorem Catalogued.swapServiceTable : Catalogued.Statement .swapServiceTable := catalogued_some rfl (by decide)
theorem Catalogued.setPortPriority (high : BitVec 16) : Catalogued.Statement (.setPortPriority high) :=
  catalogued_some rfl (by decide)
theorem Catalogued.postNotice (ports : BitVec 16) : Catalogued.Statement (.postNotice ports) :=
  catalogued_some rfl (by decide)
theorem Catalogued.restartController : Catalogued.Statement .restartController := catalogued_some rfl (by decide)
theorem Catalogued.requestFrame (port : Port) (frame : List Byte) : Catalogued.Statement (.requestFrame port frame) :=
  catalogued_none rfl
theorem Catalogued.overlongLengthDiscard (port : Port) (kind length : Byte) : Catalogued.Statement (.overlongLengthDiscard port kind length) :=
  catalogued_none rfl
theorem Catalogued.interByteTimeout (port : Port) : Catalogued.Statement (.interByteTimeout port) := catalogued_none rfl
theorem Catalogued.take : Catalogued.Statement .take := catalogued_none rfl
theorem Catalogued.responseSent (port : Port) (lines : Lines) : Catalogued.Statement (.responseSent port lines) :=
  catalogued_none rfl
theorem Catalogued.primacyPeriodExpiry : Catalogued.Statement .primacyPeriodExpiry := catalogued_none rfl
theorem Catalogued.powerOn (lines : Lines) : Catalogued.Statement (.powerOn lines) := catalogued_none rfl
theorem Catalogued.resetInputAsserted : Catalogued.Statement .resetInputAsserted := catalogued_none rfl
theorem Catalogued.resetInputDeasserted (lines : Lines) : Catalogued.Statement (.resetInputDeasserted lines) :=
  catalogued_none rfl
theorem Catalogued.resetInputHeld1s (lines : Lines) : Catalogued.Statement (.resetInputHeld1s lines) := catalogued_none rfl
theorem Catalogued.presenceAsserted (slot : SlotId) : Catalogued.Statement (.presenceAsserted slot) := catalogued_none rfl
theorem Catalogued.debounceExpiry (slot : SlotId) : Catalogued.Statement (.debounceExpiry slot) := catalogued_none rfl
theorem Catalogued.announceTimerExpiry (slot : SlotId) : Catalogued.Statement (.announceTimerExpiry slot) :=
  catalogued_none rfl
theorem Catalogued.surpriseExtraction (slot : SlotId) : Catalogued.Statement (.surpriseExtraction slot) :=
  catalogued_none rfl
theorem Catalogued.latchOpens (slot : SlotId) : Catalogued.Statement (.latchOpens slot) := catalogued_none rfl
theorem Catalogued.latchCloses (slot : SlotId) : Catalogued.Statement (.latchCloses slot) := catalogued_none rfl
theorem Catalogued.overcurrentAsserted (slot : SlotId) : Catalogued.Statement (.overcurrentAsserted slot) :=
  catalogued_none rfl
theorem Catalogued.powerGoodLost (slot : SlotId) : Catalogued.Statement (.powerGoodLost slot) := catalogued_none rfl
theorem Catalogued.stopDeadlineExpiry (slot : SlotId) : Catalogued.Statement (.stopDeadlineExpiry slot) :=
  catalogued_none rfl
theorem Catalogued.resetDelayExpiry (slot : SlotId) : Catalogued.Statement (.resetDelayExpiry slot) := catalogued_none rfl
theorem Catalogued.resetWidthExpiry (slot : SlotId) : Catalogued.Statement (.resetWidthExpiry slot) := catalogued_none rfl
theorem Catalogued.slcScanDelivery : Catalogued.Statement .slcScanDelivery := catalogued_none rfl
theorem Catalogued.prechargeExpiry : Catalogued.Statement .prechargeExpiry := catalogued_none rfl
theorem Catalogued.inrushGapExpiry : Catalogued.Statement .inrushGapExpiry := catalogued_none rfl
theorem Catalogued.syncFallingEdge : Catalogued.Statement .syncFallingEdge := catalogued_none rfl
theorem Catalogued.supplyPresentAsserted (bay : SupplyBay) : Catalogued.Statement (.supplyPresentAsserted bay) :=
  catalogued_none rfl
theorem Catalogued.supplyPresentDeasserted (bay : SupplyBay) : Catalogued.Statement (.supplyPresentDeasserted bay) :=
  catalogued_none rfl
theorem Catalogued.outputGoodChange (bay : SupplyBay) (level : Bool) : Catalogued.Statement (.outputGoodChange bay level) :=
  catalogued_none rfl
theorem Catalogued.thermalFactorReport : Catalogued.Statement .thermalFactorReport := catalogued_none rfl
theorem Catalogued.periodTimerExpiry : Catalogued.Statement .periodTimerExpiry := catalogued_none rfl
theorem Catalogued.channelReadEnd (answer : SensorAnswer) : Catalogued.Statement (.channelReadEnd answer) :=
  catalogued_none rfl
theorem Catalogued.controlStep : Catalogued.Statement .controlStep := catalogued_none rfl
theorem Catalogued.thermalTripInputAsserted : Catalogued.Statement .thermalTripInputAsserted := catalogued_none rfl
theorem Catalogued.fanStrapChange (bay : FanBay) (strap : Fin 4) : Catalogued.Statement (.fanStrapChange bay strap) :=
  catalogued_none rfl
theorem Catalogued.tachEdge (bay : FanBay) (counter : BitVec 16) : Catalogued.Statement (.tachEdge bay counter) :=
  catalogued_none rfl
theorem Catalogued.tachOverflow (bay : FanBay) : Catalogued.Statement (.tachOverflow bay) := catalogued_none rfl
theorem Catalogued.settleTimerExpiry : Catalogued.Statement .settleTimerExpiry := catalogued_none rfl
theorem Catalogued.uplinkPresentAsserted (bay : UplinkBay) : Catalogued.Statement (.uplinkPresentAsserted bay) :=
  catalogued_none rfl
theorem Catalogued.uplinkPresentDeasserted (bay : UplinkBay) : Catalogued.Statement (.uplinkPresentDeasserted bay) :=
  catalogued_none rfl
theorem Catalogued.moduleFaultAsserted (bay : UplinkBay) : Catalogued.Statement (.moduleFaultAsserted bay) :=
  catalogued_none rfl
theorem Catalogued.linkUpAsserted (bay : UplinkBay) : Catalogued.Statement (.linkUpAsserted bay) := catalogued_none rfl
theorem Catalogued.linkUpDeasserted (bay : UplinkBay) : Catalogued.Statement (.linkUpDeasserted bay) := catalogued_none rfl
theorem Catalogued.linkHoldExpiry (bay : UplinkBay) : Catalogued.Statement (.linkHoldExpiry bay) := catalogued_none rfl
theorem Catalogued.moveCompletion (lane : LaneId) : Catalogued.Statement (.moveCompletion lane) := catalogued_none rfl
theorem Catalogued.identityReadEnd (block : List Byte) : Catalogued.Statement (.identityReadEnd block) := catalogued_none rfl
theorem Catalogued.identityReadTimeout : Catalogued.Statement .identityReadTimeout := catalogued_none rfl
theorem Catalogued.identityHeaderReject (kind serialLength : Byte) : Catalogued.Statement (.identityHeaderReject kind serialLength) :=
  catalogued_none rfl
theorem Catalogued.moduleFaultDeasserted (bay : UplinkBay) : Catalogued.Statement (.moduleFaultDeasserted bay) :=
  catalogued_none rfl
theorem Catalogued.thermalTripInputDeasserted : Catalogued.Statement .thermalTripInputDeasserted := catalogued_none rfl
theorem Catalogued.overcurrentDeasserted (slot : SlotId) : Catalogued.Statement (.overcurrentDeasserted slot) :=
  catalogued_none rfl
theorem Catalogued.powerGoodAsserted (slot : SlotId) : Catalogued.Statement (.powerGoodAsserted slot) := catalogued_none rfl
theorem Catalogued.busyAnswerSent (port : Port) : Catalogued.Statement (.busyAnswerSent port) := catalogued_none rfl

end Sys2Proof.Laws
end

