-- ==== Sys2Proof/Laws/Sequencer.lean ====
section
/-! SUPPORT. What the removal of power leaves (R8), what holdings and rounds can touch, and when no round follows. -/

namespace Sys2Proof.Machine

/-! ### The rounds of an event -/

/-- Where no round is due, none is run. -/
@[simp] theorem settle_of_clear {s : State} (h : s.psq.roundDue = false) : settle s = s := by
  simp [settle, settleRounds, h]

/-- No round is due between commands. -/
theorem settle_due (s : State) : (settle s).psq.roundDue = false := by
  have h : ∀ n s, (settleRounds n s).psq.roundDue = false := by
    intro n
    induction n with
    | zero => exact fun s => rfl
    | succ n ih =>
      intro s
      unfold settleRounds
      split
      · exact ih _
      · rename_i hd
        simpa using hd
  exact h 32 s

/-! ### Power steps of SLC and PSQ -/

theorem dropHolding_settings (i : SlotId) (p : Psq) :
    (dropHolding i p).group = p.group ∧ (dropHolding i p).pause = p.pause
    ∧ (dropHolding i p).urgent = p.urgent ∧ (dropHolding i p).queueSettings = p.queueSettings
    ∧ (dropHolding i p).admission = p.admission ∧ (dropHolding i p).triggerOnSync = p.triggerOnSync
    ∧ (dropHolding i p).prechargeTime = p.prechargeTime ∧ (dropHolding i p).inrushGap = p.inrushGap := by
  simp [dropHolding]

theorem leaveSource_settings (i : SlotId) (src : Source) (p : Psq) :
    (leaveSource src i p).group = p.group ∧ (leaveSource src i p).pause = p.pause
    ∧ (leaveSource src i p).urgent = p.urgent ∧ (leaveSource src i p).queueSettings = p.queueSettings
    ∧ (leaveSource src i p).admission = p.admission ∧ (leaveSource src i p).triggerOnSync = p.triggerOnSync
    ∧ (leaveSource src i p).prechargeTime = p.prechargeTime ∧ (leaveSource src i p).inrushGap = p.inrushGap := by
  cases src <;> simp only [leaveSource] <;> (try split) <;> simp

theorem enterQueued_power (i : SlotId) (src : Source) (s : State) : PowerStep [] s (enterQueued i src s) :=
  ((modSlot_power_kept [] i _ s (by constructor <;> rfl)).trans (enter_power [] i _ _)).trans (callRound_power [] _)

theorem admissionAdd_power (i : SlotId) (s : State) : PowerStep [] s (admissionAdd i s) := by
  unfold admissionAdd
  split
  · exact (psq_power s _ (by simp)).trans (enterQueued_power i _ _)
  · exact .refl [] s

theorem removeHolding_power (i : SlotId) (s : State) : PowerStep [] s (removeHolding i s) := by
  unfold removeHolding
  exact (((psq_power s _ (dropHolding_settings i _)).trans (modSlot_power_kept [] i _ _ (by constructor <;> rfl))).trans
    (enter_power [] i _ _)).trans (callRound_power [] _)

theorem endPrecharge_power (atOnce : Bool) (s : State) : PowerStep [] s (endPrecharge atOnce s) := by
  unfold endPrecharge
  split
  · exact (psq_power s _ (by simp)).trans (callRound_power [] _)
  · exact psq_power s _ (by simp)

theorem leaveShed_power (i : SlotId) (s : State) : PowerStep [] s (leaveShed i s) := by
  unfold leaveShed
  exact (bdu_power s _ (by simp)).trans (.doWhen _ (raise_power [] _ _ _))

theorem takeRelease_power (i : SlotId) (s : State) : PowerStep [] s (takeRelease i s) :=
  ((releaseFloor_power i s).trans (leaveShed_power i _)).trans (evaluate_power _ _)

theorem removePower_power (i : SlotId) (st : SlotState) (flags : SlotRec → SlotRec) (atOnce : Bool) (s : State) :
    PowerStep [i] s (removePower i st flags atOnce s) := by
  unfold removePower
  dsimp only
  have h1 : PowerStep [i] s (s.modSlot i fun r => flags (unpower r)) := modSlot_power (List.mem_singleton.mpr rfl) _ s
  have h2 := h1.trans (enter_power [i] i st (s.modSlot i fun r => flags (unpower r)))
  have h3 := h2.trans (.doWhen ((s.slot i).state == SlotState.precharge) ((endPrecharge_power atOnce _).mono (by simp)))
  exact h3.trans (((lanesOut_laneStep i _).power [i]).trans ((takeRelease_power i _).mono (by simp)))

theorem faultSlot_power (i : SlotId) (cause : FaultCause) (s : State) : PowerStep [i] s (faultSlot i cause s) :=
  removePower_power i _ _ _ s

theorem actOnRestore_power (i : SlotId) (s : State) : PowerStep [] s (actOnRestore i s) := by
  unfold actOnRestore
  split
  · exact (modSlot_power_kept [] i _ s (by constructor <;> rfl)).trans (.doWhen _ (admissionAdd_power i _))
  · exact .refl [] s

theorem closeSwitch_power (src : Source) (p : Place) (s : State) : PowerStep [] s (closeSwitch src p s) := by
  unfold closeSwitch
  exact ((modSlot_power_kept [] p.slot _ s (by constructor <;> rfl)).trans (enter_power [] p.slot _ _)).trans
    (psq_power _ _ (by simp))

theorem commitFloor_power (i : SlotId) (s : State) : PowerStep [] s (commitFloor i s) := by
  unfold commitFloor
  exact ((modSlot_power_kept [] i _ s (by constructor <;> rfl)).trans (bdu_power _ _ (by simp))).trans (evaluate_power _ _)

/-! ### What the removal of power leaves (R8) -/

theorem endPrecharge_slots (atOnce : Bool) (s : State) : (endPrecharge atOnce s).slots = s.slots := by
  unfold endPrecharge
  split <;> rfl

theorem doWhen_raise_keeps (b : Bool) (c : Cond) (ports : BitVec 16) (s : State) :
    (doWhen b (raise c ports) s).slots = s.slots ∧ (doWhen b (raise c ports) s).bdu = s.bdu
    ∧ (doWhen b (raise c ports) s).lxc = s.lxc := by
  cases b <;> simp

/-- What leaving the shed set writes (R77). -/
theorem leaveShed_keeps (i : SlotId) (s : State) :
    (leaveShed i s).slots = s.slots
    ∧ (leaveShed i s).bdu = { s.bdu with shedSet := s.bdu.shedSet.filter (· != i) }
    ∧ (leaveShed i s).lxc = s.lxc := by
  unfold leaveShed
  dsimp only
  exact doWhen_raise_keeps _ _ _ _

/-- A released slot: no cap, no floor, not in the shed set (R55, R77). -/
theorem release_keeps (i : SlotId) (s : State) :
    (leaveShed i (releaseFloor i s)).slot i = { s.slot i with cap := 0 }
    ∧ (leaveShed i (releaseFloor i s)).bdu.floors.get i = none
    ∧ i ∉ (leaveShed i (releaseFloor i s)).bdu.shedSet
    ∧ (leaveShed i (releaseFloor i s)).lxc = s.lxc := by
  obtain ⟨h1, h2, h3⟩ := leaveShed_keeps i (releaseFloor i s)
  refine ⟨?_, ?_, ?_, h3.trans rfl⟩
  · rw [State.slot, h1]
    simp [State.slot, releaseFloor, State.modSlot]
  · rw [h2]
    simp [releaseFloor]
  · rw [h2]
    simp

/-- The slot record after the switch opens and the resource is told (R8). -/
theorem opened_slot (i : SlotId) (st : SlotState) (flags : SlotRec → SlotRec) (c atOnce : Bool) (s : State) :
    (doWhen c (endPrecharge atOnce) (enter i st (s.modSlot i fun r => flags (unpower r)))).slot i
      = { flags (unpower (s.slot i)) with state := st } := by
  have h : (doWhen c (endPrecharge atOnce) (enter i st (s.modSlot i fun r => flags (unpower r)))).slots
      = (enter i st (s.modSlot i fun r => flags (unpower r))).slots := by
    cases c
    · rfl
    · exact endPrecharge_slots atOnce _
  have e := enter_slot i i st (s.modSlot i fun r => flags (unpower r))
  simp only [if_true, modSlot_slot] at e
  rw [← e]
  simp only [State.slot, h]

/-- The slot record, the floor, the shed set and the lanes after a removal of power. -/
theorem removePower_spec (i : SlotId) (st : SlotState) (flags : SlotRec → SlotRec) (atOnce : Bool) (s : State)
    (hst : st.powered = false) :
    (removePower i st flags atOnce s).slot i = { flags (unpower (s.slot i)) with state := st, cap := 0 }
    ∧ (removePower i st flags atOnce s).bdu.floors.get i = none
    ∧ i ∉ (removePower i st flags atOnce s).bdu.shedSet
    ∧ Resting (removePower i st flags atOnce s) (laneA i) ∧ Resting (removePower i st flags atOnce s) (laneB i) := by
  unfold removePower takeRelease
  dsimp only
  generalize hx : doWhen ((s.slot i).state == SlotState.precharge) (endPrecharge atOnce)
    (enter i st (s.modSlot i fun r => flags (unpower r))) = x
  have hxs : x.slot i = { flags (unpower (s.slot i)) with state := st } := hx ▸ opened_slot i st flags _ atOnce s
  have hr := lanesOut_resting i x
  have hl : (lanesOut i x).slot i = x.slot i := by
    have := (lanesOut_laneStep i x).quiet.frame.slc.resolve_left (by decide)
    simp only [State.slot, this]
  clear hx
  generalize lanesOut i x = y at hr hl ⊢
  obtain ⟨zs, zf, zd, zl⟩ := release_keeps i y
  generalize leaveShed i (releaseFloor i y) = z at zs zf zd zl ⊢
  have zr : z.slot i = { flags (unpower (s.slot i)) with state := st, cap := 0 } := by rw [zs, hl, hxs]
  have za : Resting z (laneA i) := hr.1.of_leaves (.of_lxc zl)
  have zb : Resting z (laneB i) := hr.2.of_leaves (.of_lxc zl)
  have k : Spares i z (evaluate (headroom y) z) := evaluate_spares _ (by rw [zr]; exact hst)
  exact ⟨k.slot.trans zr, k.floor.trans zf, k.shed zd, za.of_leaves (k.laneA za.aside), zb.of_leaves (k.laneB zb.aside)⟩

end Sys2Proof.Machine
end

