-- ==== Sys2Proof/Tests/Slice0.lean ====
section
/-! SUPPORT. The model's own tests, each about one step or one figure on a small state, with the expected value worked out from
the manual (its section is named); and one witness for every statement that has hypotheses, that they can be met. -/

namespace Sys2Proof.Tests

open Sys2Proof Sys2Proof.Machine

set_option Elab.async false

/-! ### Helpers -/

/-- What is seen of the state a command answers. -/
def seen {α : Type} (o : Out) (f : State → α) : Option α :=
  match o with
  | .next t => some (f t)
  | _ => none

/-- The engine serving a request of a port. -/
def serving (p : Port) (kind : Byte) (payload : List Byte) (s : State) : State :=
  { s.modPort p (fun r => { r with state := .answering, held := some ⟨kind, payload⟩ }) with
    lnk := { (s.modPort p (fun r => { r with state := .answering, held := some ⟨kind, payload⟩ })).lnk with
      engine := .serving p } }

theorem serving_serves (p : Port) (kind : Byte) (payload : List Byte) (s : State) :
    Serving (serving p kind payload s) p kind payload := by
  refine ⟨rfl, ?_⟩
  simp [serving, State.port, State.modPort]

/-- A slot in a state, with what R1 gives in it. -/
def slotIn (i : SlotId) (st : SlotState) (s : State) : State :=
  s.modSlot i fun r => { r with
    state := st, presence := st != .empty, mainSwitch := st.powered
    debounce := if st = .detecting then some 100 else none
    announceTimer := if st = .seated then some 10000 else none
    stopReason := if st = .stopping then some .requested else none
    deadline := if st = .stopping then some 30000 else none
    holdingSource := if st = .queued then some .urgent else none
    faultCause := if st = .faulted then some .overcurrent else none }

/-- A blade of a floor and a maximum in a slot. -/
def blade (i : SlotId) (floor maximum : Nat) (s : State) : State :=
  s.modRecord (bladeRecord i) fun _ => ⟨.identified, .none, some (.blade ⟨⟨7, 1, [65]⟩, floor, maximum, 1, 2⟩)⟩

/-- A powered blade, its floor committed. -/
def powered (i : SlotId) (st : SlotState) (tier : Fin 4) (floor m : Nat) (s : State) : State :=
  let s := (slotIn i st (blade i floor 2047 s)).modSlot i fun r => { r with tier := tier, m := m, cap := floor }
  { s with bdu := { s.bdu with floors := put s.bdu.floors i (some floor) } }

/-- A healthy supply of a rating, and the mode NONE at 100 % with no overhead. -/
def supplied (rating : Nat) (s : State) : State :=
  let s := s.modSupply 0 fun _ => ⟨.healthy, true, true, .identified, rating⟩
  { s with bdu := { s.bdu with policy := ⟨.none, 100, 0, 200, true, 5⟩ } }

/-- Every port has selected all it may. -/
def listening (s : State) : State :=
  { s with lnk := { s.lnk with ports := tabulate fun p => { s.lnk.ports.get p with selected := entitlement p } } }

/-- The port's last answer's outcome. -/
def outcomeAt (p : Port) (s : State) : Option OutcomeCode :=
  match (s.port p).tx.getLast? with
  | some (.response r) => some r.outcome
  | _ => none

/-! ### Which commands are well formed: one ill-formed term for each check -/

theorem test_wf_serial_of_fifty_refused :
    (Instr.announce ⟨0, 0, 0, 0, 0, 0, List.replicate 50 65⟩).wellFormed = false := by decide +kernel
theorem test_wf_serial_of_forty_nine :
    (Instr.announce ⟨0, 0, 0, 0, 0, 0, List.replicate 49 65⟩).wellFormed = true := by decide +kernel
theorem test_wf_demand_beyond_two_bytes_refused : (Instr.reportDemand 65536 0).wellFormed = false := by decide +kernel
theorem test_wf_no_places_refused : (Instr.queuePowerOn []).wellFormed = false := by decide +kernel
theorem test_wf_fifteen_places_refused :
    (Instr.queuePowerOn (List.replicate 15 ⟨0, .off, .off⟩)).wellFormed = false := by decide +kernel
theorem test_wf_no_entries_refused : (Instr.loadServiceTable 1 []).wellFormed = false := by decide +kernel
theorem test_wf_seventeen_entries_refused :
    (Instr.loadServiceTable 1 (List.replicate 17 ⟨0, true, true⟩)).wellFormed = false := by decide +kernel
theorem test_wf_short_frame_refused : (Instr.requestFrame 0 [17, 1, 0x42]).wellFormed = false := by decide +kernel
theorem test_wf_length_of_sixty_is_not_overlong : (Instr.overlongLengthDiscard 0 17 60).wellFormed = false := by decide +kernel
theorem test_wf_length_of_sixty_one_is_overlong : (Instr.overlongLengthDiscard 0 17 61).wellFormed = true := by decide +kernel
theorem test_wf_cut_block_refused : (Instr.identityReadEnd [0xA1, 0, 1, 1, 1, 65, 7, 208]).wellFormed = false := by decide +kernel
theorem test_wf_good_header_is_no_reject : (Instr.identityHeaderReject 0xA1 16).wellFormed = false := by decide +kernel
theorem test_wf_bad_header_is_a_reject : (Instr.identityHeaderReject 0xA1 17).wellFormed = true := by decide +kernel

/-- No row of the table has bits (opcode_table.json), so no word spells a command and none changes the queue. -/
theorem test_no_word_spells_a_command :
    decodeTableWord 0 0 = none ∧ decodeTableWord 32 17 = none
      ∧ (State.reset.withFetchWord 32 17).pending = [] := by decide +kernel

/-! ### Reset and the step -/

/-- Section 1.13 and its like: power-on with every line deasserted leaves the reset state, whatever went before. -/
theorem test_power_on_in_an_empty_chassis :
    seen (exec (.powerOn idleLines) (slotIn 3 .on State.reset)) id = some State.reset := by decide +kernel

/-- R3 and R24: a present blade is DETECTING with a full debounce. -/
theorem test_power_on_finds_a_blade :
    seen (exec (.powerOn { idleLines with presence := 0x2000 }) State.reset)
      (fun t => ((t.slot 13).state, (t.slot 13).debounce, (t.slot 12).state)) = some (.detecting, some 100, .empty) := by
  decide +kernel

/-- The front command runs first and the rest waits. -/
theorem test_step_takes_the_front :
    seen (step { State.reset with pending := [.presenceAsserted 4, .take] }) (fun t => ((t.slot 4).state, t.pending))
      = some (.detecting, [.take]) := by decide +kernel

/-- An empty queue passes 1 ms. -/
theorem test_step_on_an_empty_queue_passes_a_ms :
    seen (step (slotIn 0 .stopping State.reset)) (fun t => (t.slot 0).deadline) = some (some 29999) := by decide +kernel

/-! ### Slots (chapter 1) -/

theorem test_debounce_leads_to_seated :
    seen (exec (.debounceExpiry 2) (slotIn 2 .detecting State.reset))
      (fun t => ((t.slot 2).state, (t.slot 2).announceTimer)) = some (.seated, some 10000) := by decide +kernel

theorem test_announce_timer_leads_to_mute :
    seen (exec (.announceTimerExpiry 2) (slotIn 2 .seated State.reset)) (fun t => (t.slot 2).state) = some .mute := by
  decide +kernel

/-- An Announce whose maximum is below its floor. -/
def lowMaximum : AnnounceArgs := ⟨7, 1, 300, 200, 1, 2, [65]⟩

/-- R5: a maximum below the floor is raised to it, and CLAMPED answers the applied figures. -/
theorem test_announce_raises_the_maximum :
    seen (exec (.announce lowMaximum) (serving 6 1 (lowMaximum.bytes 6) (slotIn 6 .seated State.reset)))
      (fun t => ((t.slot 6).state, (t.slot 6).m, t.maximum 6, t.inv.generation, (t.port 6).tx))
      = some (.standby, 300, 300, 1, [.response ⟨1, .clamped, .bytes [1, 44, 1, 44]⟩]) := by decide +kernel

/-- R5: a serial of 17 characters is refused and nothing is stored. -/
theorem test_announce_refuses_a_long_serial :
    seen (exec (.announce { lowMaximum with serial := List.replicate 17 65 })
      (serving 6 1 (AnnounceArgs.bytes { lowMaximum with serial := List.replicate 17 65 } 6) (slotIn 6 .standby State.reset)))
      (fun t => (outcomeAt 6 t, (t.record 6).state)) = some (some .range, .absent) := by decide +kernel

/-- R21: STANDBY joins the ADMIT set; with no headroom it waits there. -/
theorem test_request_power_on_joins_admit :
    seen (exec .requestPowerOn (serving 6 2 [6] (slotIn 6 .standby (blade 6 100 200 State.reset))))
      (fun t => ((t.slot 6).state, (t.slot 6).holdingSource, t.psq.pendingSet, outcomeAt 6 t))
      = some (.queued, some .admission, 0x0040, some .accepted) := by decide +kernel

theorem test_request_power_on_held :
    seen (exec .requestPowerOn (serving 6 2 [6] ((slotIn 6 .standby State.reset).modSlot 6 fun r => { r with hold := true })))
      (fun t => ((t.slot 6).state, outcomeAt 6 t)) = some (.standby, some .held) := by decide +kernel

/-- R12: the stop completes; the floor is released and the switch opens. -/
theorem test_release_power_completes_a_stop :
    seen (exec .releasePower (serving 2 3 [2] (powered 2 .stopping 1 300 300 (supplied 1000 State.reset))))
      (fun t => ((t.slot 2).state, (t.slot 2).mainSwitch, (t.slot 2).lastStopForced, committed t, outcomeAt 2 t))
      = some (.standby, false, false, 0, some .done) := by decide +kernel

/-- R12: a slot already off is answered STATE. -/
theorem test_release_power_in_standby :
    seen (exec .releasePower (serving 2 3 [2] (slotIn 2 .standby State.reset))) (outcomeAt 2) = some (some .state) := by
  decide +kernel

/-- R22: a demand above the maximum is brought to it. -/
theorem test_report_demand_clamps :
    seen (exec (.reportDemand 5000 90) (serving 2 4 [2, 19, 136, 90] (slotIn 2 .standby (blade 2 300 700 State.reset))))
      (fun t => ((t.slot 2).m, (t.slot 2).c, outcomeAt 2 t)) = some (700, 90, some .clamped) := by decide +kernel

theorem test_power_off_starts_a_stop :
    seen (exec (.powerOff 2) (serving 14 77 [2] (slotIn 2 .on State.reset)))
      (fun t => ((t.slot 2).state, (t.slot 2).stopReason, (t.slot 2).deadline, outcomeAt 14 t))
      = some (.stopping, some .requested, some 30000, some .accepted) := by decide +kernel

/-- R1: slot 14 does not exist. -/
theorem test_power_off_of_slot_fourteen :
    seen (exec (.powerOff 14) (serving 14 77 [14] State.reset)) (outcomeAt 14) = some (some .range) := by decide +kernel

theorem test_force_off_marks_the_stop :
    seen (exec (.forceOff 2) (serving 14 78 [2] (powered 2 .on 1 300 300 (supplied 1000 State.reset))))
      (fun t => ((t.slot 2).state, (t.slot 2).lastStopForced, committed t)) = some (.standby, true, 0) := by decide +kernel

theorem test_stop_deadline_forces :
    seen (exec (.stopDeadlineExpiry 2) (powered 2 .stopping 1 300 300 (supplied 1000 State.reset)))
      (fun t => ((t.slot 2).state, (t.slot 2).lastStopForced)) = some (.standby, true) := by decide +kernel

/-- R17: a delay of 0 asserts the line at once. -/
theorem test_pulse_without_delay :
    seen (exec (.pulseReset 2) (serving 14 79 [2] (slotIn 2 .on State.reset)))
      (fun t => ((t.slot 2).pulse, (t.slot 2).resetLine)) = some (.asserting 100, true) := by decide +kernel

theorem test_pulse_ends :
    seen (exec (.resetWidthExpiry 2) ((slotIn 2 .on State.reset).modSlot 2 fun r =>
      { r with pulse := .asserting 0, resetLine := true })) (fun t => ((t.slot 2).pulse, (t.slot 2).resetLine))
      = some (.idle, false) := by decide +kernel

theorem test_pulse_delay_ends :
    seen (exec (.resetDelayExpiry 2) ((slotIn 2 .on State.reset).modSlot 2 fun r => { r with pulse := .delaying 0 100 }))
      (fun t => ((t.slot 2).pulse, (t.slot 2).resetLine)) = some (.asserting 100, true) := by decide +kernel

theorem test_clear_fault :
    seen (exec (.clearFault 2) (serving 14 80 [2] (slotIn 2 .faulted State.reset)))
      (fun t => ((t.slot 2).state, (t.slot 2).faultCause)) = some (.standby, none) := by decide +kernel

theorem test_overcurrent_faults :
    seen (exec (.overcurrentAsserted 2) (powered 2 .on 1 300 300 (supplied 1000 State.reset)))
      (fun t => ((t.slot 2).state, (t.slot 2).faultCause, (t.slot 2).mainSwitch, committed t))
      = some (.faulted, some .overcurrent, false, 0) := by decide +kernel

/-- R9: a change of power-good during PRECHARGE is not acted on. -/
theorem test_power_good_lost_in_precharge :
    seen (exec (.powerGoodLost 2) (slotIn 2 .precharge State.reset)) (fun t => (t.slot 2).state) = some .precharge := by
  decide +kernel

theorem test_extraction_of_a_running_blade :
    seen (exec (.surpriseExtraction 2) (powered 2 .on 1 300 500 (supplied 1000 State.reset)))
      (fun t => ((t.slot 2).state, (t.slot 2).m, committed t, (t.record 2).state, t.inv.generation))
      = some (.empty, 0, 0, .absent, 1) := by decide +kernel

theorem test_latch_opens_in_on :
    seen (exec (.latchOpens 2) (slotIn 2 .on State.reset))
      (fun t => ((t.slot 2).state, (t.slot 2).stopReason, (t.slot 2).latchOpen)) = some (.stopping, some .eject, true) := by
  decide +kernel

theorem test_latch_closes_with_auto_power_on :
    seen (exec (.latchCloses 2) ((slotIn 2 .standby (blade 2 100 200 State.reset)).modSlot 2 fun r =>
      { r with autoPowerOn := true, latchOpen := true })) (fun t => (t.slot 2).state) = some .queued := by decide +kernel

/-- Section 1.15: a cap of 368 W has the threshold 391; 395 is above it, 391 is in the band, 368 clears. -/
theorem test_throttle_band :
    let r := { coldSlot idleLines 0 with state := .on, cap := 368, violations := 2 }
    ((judgePower ⟨.fresh, some 395, 0⟩ r).violations, (judgePower ⟨.fresh, some 395, 0⟩ r).throttle,
      (judgePower ⟨.fresh, some 391, 0⟩ r).violations, (judgePower ⟨.fresh, some 368, 0⟩ r).violations,
      (judgePower ⟨.stale, some 402, 3⟩ r).violations) = (3, true, 2, 0, 2) := by decide +kernel

/-- R19: 601 s and a width of 0 ms are brought into range. -/
theorem test_slot_policy_clamps :
    seen (exec (.setSlotPolicy 2 ⟨4, .on, .off, 601, 1001, 0⟩) (serving 14 65 [] State.reset))
      (fun t => ((t.slot 2).tier, (t.slot 2).shutdownTimeout, (t.slot 2).resetDelay, (t.slot 2).resetWidth, outcomeAt 14 t))
      = some (3, 600, 1000, 1, some .clamped) := by decide +kernel

theorem test_zone_map_refuses_zone_four :
    seen (exec (.setSlotZoneMap (tabulate fun i => if i = 13 then 4 else 0))
      (serving 14 67 (List.replicate 13 0 ++ [4]) State.reset))
      (fun t => (outcomeAt 14 t, (t.slot 0).zone, (t.slot 13).zone)) = some (some .range, 0, 3) := by decide +kernel

theorem test_slot_hold :
    seen (exec (.setSlotHold 13 .on) (serving 14 66 [] State.reset)) (fun t => (t.slot 13).hold) = some true := by
  decide +kernel

/-! ### The sequencer (chapter 2) -/

/-- Slots 3, 5 and 7 in STANDBY with floors of 100 W under a pool of 1000 W. -/
def staged : State :=
  slotIn 3 .standby (slotIn 5 .standby (slotIn 7 .standby
    (blade 3 100 200 (blade 5 100 200 (blade 7 100 200 (supplied 1000 State.reset))))))

/-- The queue that starts the staged sequence: 5 waits for a trigger, 7 notifies. -/
def stagedQueue : State :=
  let s := slotIn 5 .queued (slotIn 7 .queued staged)
  { s with psq := { s.psq with queue := [⟨5, true, false⟩, ⟨7, false, true⟩] } }

/-- Section 2.12, 0 ms: the head starts at once, the rest wait. -/
theorem test_queue_starts_its_head :
    seen (exec (.queuePowerOn [⟨3, .off, .off⟩, ⟨5, .on, .off⟩, ⟨7, .off, .on⟩]) (serving 14 69 (List.replicate 6 0) staged))
      (fun t => (t.psq.resource, t.psq.queue, (t.slot 3).cap, (t.slot 5).state, outcomeAt 14 t))
      = some (.precharging 3 .queue false 200, [⟨5, true, false⟩, ⟨7, false, true⟩], 100, .queued, some .accepted) := by decide +kernel

/-- R30: a slot named twice is refused whole. -/
theorem test_queue_refuses_a_slot_twice :
    seen (exec (.queuePowerOn [⟨3, .off, .off⟩, ⟨3, .on, .off⟩]) (serving 14 69 (List.replicate 4 0) staged))
      (fun t => (outcomeAt 14 t, (t.slot 3).state)) = some (some .range, .standby) := by decide +kernel

/-- Section 2.12, 900 ms: a trigger lets slot 5 start. -/
theorem test_step_sequence_lets_the_head_start :
    seen (exec .stepSequence (serving 14 70 [] stagedQueue))
      (fun t => (t.psq.resource, t.psq.trigger, t.psq.queue)) = some (.precharging 5 .queue false 200, false,
        [⟨7, false, true⟩]) := by decide +kernel

/-- R35: a sync edge is no trigger while the trigger source is OFF. -/
theorem test_sync_edge_with_trigger_off :
    seen (exec .syncFallingEdge stagedQueue) (fun t => (t.psq.trigger, t.psq.resource)) = some (false, .free) := by
  decide +kernel

/-- Section 2.12: slot 2 (500 W, URGENT) preempts slot 9 (300 W, QUEUE) with H at 250 W, and 9 waits in the backup stage. -/
theorem test_preemption :
    let s := powered 9 .precharge 1 300 300 (blade 2 500 900 (slotIn 2 .standby (supplied 550 State.reset)))
    let s := { s with psq := { s.psq with resource := .precharging 9 .queue true 50 } }
    seen (exec (.powerOnNow 2 .off) (serving 14 68 [] s))
      (fun t => (t.psq.resource, t.psq.queueBackup, t.psq.urgentEntry, (t.slot 9).state, (t.slot 2).state, headroom t))
      = some (.precharging 2 .urgent false 200, some ⟨9, false, true⟩, none, .queued, .precharge, 50) := by decide +kernel

theorem test_precharge_ends_in_on :
    let s := powered 9 .precharge 1 300 500 (supplied 1000 State.reset)
    let s := { s with psq := { s.psq with resource := .precharging 9 .queue true 0 }, lines := { s.lines with powerGood := 0x200 } }
    seen (exec .prechargeExpiry (listening s))
      (fun t => ((t.slot 9).state, (t.slot 9).cap, t.psq.resource, (t.port 14).pending.getLsbD 10))
      = some (.on, 500, .gap 100, true) := by decide +kernel

theorem test_gap_expiry_frees_the_resource :
    seen (exec .inrushGapExpiry { State.reset with psq := { coldPsq with resource := .gap 0 } }) (fun t => t.psq.resource)
      = some .free := by decide +kernel

/-- R32: a slot in both masks ends outside the group. -/
theorem test_edit_admission_group :
    seen (exec (.editAdmissionGroup 0x2003 0x0002) (serving 14 71 [0x20, 3, 0, 2] State.reset)) (fun t => t.psq.group)
      = some 0x2001 := by decide +kernel

/-- Section 2.12, a REPLACE load: 1 drops, 6 joins, 10 is passed over for its open latch. -/
theorem test_replace_load :
    let s := slotIn 10 .standby (slotIn 6 .standby (slotIn 1 .queued (blade 6 100 200 (blade 1 100 200 State.reset))))
    let s := s.modSlot 10 fun r => { r with latchOpen := true }
    let s := { s with psq := { s.psq with pendingSet := 0x0002, group := 0x0440 } }
    seen (exec (.loadAdmissionGroup .replace) (serving 14 72 [] s))
      (fun t => ((t.slot 1).state, (t.slot 6).state, (t.slot 10).state, (t.port 14).tx))
      = some (.standby, .queued, .standby, [.response ⟨72, .done, .admissionLoad 0x0040 0x0400⟩]) := by decide +kernel

theorem test_remove_next_takes_the_head :
    seen (exec (.removeNext .queue) (serving 14 75 [] stagedQueue))
      (fun t => ((t.slot 5).state, t.psq.resource, outcomeAt 14 t))
      = some (.standby, .precharging 7 .queue true 200, some .done) := by decide +kernel

theorem test_flush_empties_the_queue :
    seen (exec (.flushSource .queue) (serving 14 76 [] stagedQueue))
      (fun t => ((t.slot 5).state, (t.slot 7).state, t.psq.queue)) = some (.standby, .standby, []) := by decide +kernel

/-- R43: a precharge time of 20 ms is brought to 50. -/
theorem test_sequencer_settings_clamp :
    seen (exec (.configureSequencer ⟨⟨.on, 3, .preempt⟩, ⟨.on, 9, .wait⟩, ⟨.off, 0, .wait⟩, .sync, 20, 1001⟩)
      (serving 14 73 [] State.reset)) (fun t => (t.psq.prechargeTime, t.psq.inrushGap, t.psq.queueSettings.priority,
        t.psq.triggerOnSync, outcomeAt 14 t)) = some (50, 1000, 3, true, some .clamped) := by decide +kernel

theorem test_pause_holds_the_round :
    seen (exec (.pauseSequencer .on) (serving 14 74 [] State.reset)) (fun t => (t.psq.pause, winner t)) = some (true, none) := by
  decide +kernel

/-! ### Supplies, budget, caps and shedding (chapters 3 and 4) -/

/-- Section 3.1: a present supply is read before it counts. -/
theorem test_supply_present :
    seen (exec (.supplyPresentAsserted 5) State.reset)
      (fun t => ((t.supply 5).state, t.inv.readList, t.inv.readLeft, t.inv.generation))
      = some (.unidentified, [19], some 100, 1) := by decide +kernel

theorem test_supply_absent :
    seen (exec (.supplyPresentDeasserted 0) (supplied 1000 State.reset)) (fun t => ((t.supply 0).state, usable t))
      = some (.absent, 0) := by decide +kernel

/-- Section 3.9: 9600 W total at N_PLUS_N gives min(5600, 4000) × 95 % = 3800 W; without bay 3, 1900 W. -/
theorem test_capacity_of_two_grids :
    let supply := fun b r => State.modSupply b fun _ => ⟨.healthy, true, true, .identified, r⟩
    let s := supply 4 2000 (supply 3 2000 (supply 2 1600 (supply 1 2000 (supply 0 2000 State.reset))))
    let s := { s with bdu := { s.bdu with policy := ⟨.nPlusN, 95, 0, 200, true, 5⟩ } }
    (usable s, seen (exec (.outputGoodChange 3 false) s) (fun t => ((t.supply 3).state, usable t)))
      = (3800, some (.failed, 1900)) := by decide +kernel

theorem test_budget_policy_clamps :
    seen (exec (.setBudgetPolicy ⟨.nPlusN, 49, 1024, 8192, .on, 0⟩) (serving 14 64 [] State.reset))
      (fun t => (t.bdu.policy, outcomeAt 14 t)) = some (⟨.nPlusN, 50, 1023, 8191, true, 1⟩, some .clamped) := by decide +kernel

/-- Two blades of tier 3 that ask 500 W and 400 W beyond floors of 300 W, under a pool of 722 W. -/
def splitTier : State := powered 0 .on 3 300 800 (powered 1 .on 3 300 700 (supplied 722 State.reset))

/-- R66's example: E = 122 gives shares 67 and 54 and one leftover watt to slot 0. -/
theorem test_split_of_122_watts :
    (extraBefore splitTier 3, distributedCap splitTier 0, distributedCap splitTier 1) = (122, 368, 354) := by decide +kernel

/-- R63's example: f = 250, m = 900, k = 60 gives 640; and the report of the factor writes that cap. -/
theorem test_thermal_report_lowers_the_cap :
    let s := powered 4 .on 1 250 900 (supplied 2000 State.reset)
    let s := (s.modZone 1 fun z => { z with k := 60 })
    seen (exec .thermalFactorReport { s with clc := { s.clc with reports := 1 } })
      (fun t => ((t.slot 4).cap, t.clc.reports)) = some (640, 0) := by decide +kernel

/-- Section 4.10: slot 8's precharge is aborted, 3 and 2 are named, 6 is relabelled, 11 passed over for its floor of 0. -/
theorem test_shed_of_the_worked_case :
    let s := powered 2 .on 2 300 300 (powered 3 .on 1 250 250 (powered 6 .stopping 0 200 200
      (powered 8 .precharge 1 150 150 (powered 11 .on 0 0 600 (supplied 1000 State.reset)))))
    let s := { s with psq := { s.psq with resource := .precharging 8 .admission false 50 } }
    let s := s.modSupply 1 fun _ => ⟨.healthy, true, true, .identified, 150⟩
    seen (exec (.outputGoodChange 0 false) s)
      (fun t => (t.bdu.shedSet, headroom t, (t.slot 8).state, (t.slot 6).deadline, (t.slot 6).restore))
      = some ([3, 2, 6], -600, .queued, some 5000, false) := by decide +kernel

/-! ### The scanner (chapter 5) -/

theorem test_period_expiry_during_a_scan_is_an_overrun :
    seen (exec .periodTimerExpiry State.reset) (fun t => (t.ssc.overrun, t.ssc.periodTimer)) = some (true, some 1000) := by
  decide +kernel

theorem test_channel_read_moves_on :
    seen (exec (.channelReadEnd (.celsius 151)) State.reset)
      (fun t => ((t.reading 0).value, (t.reading 0).state, t.ssc.scan.map (·.todo.length))) = some (some 150, .fresh, some 19) := by
  decide +kernel

/-- Section 5.10: the third failed read in a row makes the reading STALE at its held value. -/
theorem test_third_failure_is_stale :
    let s := { State.reset with ssc := { State.reset.ssc with readings := put State.reset.ssc.readings 0 ⟨.fresh, some 41, 2⟩ } }
    seen (exec (.channelReadEnd .failed) s) (fun t => t.reading 0) = some ⟨.stale, some 41, 3⟩ := by decide +kernel

theorem test_last_read_completes_the_scan :
    let s := { State.reset with ssc := { State.reset.ssc with scan := some ⟨.request, [19], [19], 0⟩ } }
    seen (exec (.channelReadEnd (.watts 5000)) s)
      (fun t => ((t.reading 19).value, t.ssc.scan, t.ssc.completed, t.ssc.toClc.length, t.ssc.toSlc.length))
      = some (some 4095, none, 1, 1, 1) := by decide +kernel

theorem test_scan_now_busy :
    seen (exec .scanNow (serving 15 44 [] State.reset)) (outcomeAt 15) = some (some .busy) := by decide +kernel

theorem test_set_scan_clamps :
    seen (exec (.setScan .sync 99) (serving 14 87 [] State.reset)) (fun t => (t.ssc.period, t.ssc.periodTimer, outcomeAt 14 t))
      = some (100, none, some .clamped) := by decide +kernel

theorem test_edit_channel_set :
    seen (exec (.editChannelSet 0 0x080000) (serving 14 88 [] State.reset))
      (fun t => ((t.reading 19).state, (t.reading 18).state)) = some (.disabled, .none) := by decide +kernel

theorem test_read_sensor_clears_the_overrun :
    let s := { State.reset with ssc := { State.reset.ssc with overrun := true } }
    seen (exec (.readSensor 255) (serving 15 38 [255] s)) (fun t => (t.ssc.overrun, outcomeAt 15 t)) = some (false, some .done) := by
  decide +kernel

theorem test_scan_delivery_is_taken :
    let s := slotIn 0 .on State.reset
    let s := { s with ssc := { s.ssc with toSlc := [tabulate fun _ => ⟨.fresh, some 1, 0⟩] } }
    seen (exec .slcScanDelivery s) (fun t => (t.ssc.toSlc, (t.slot 0).violations)) = some ([], 1) := by decide +kernel

/-- R91: SLC acts on the copy of the completion; the channel has been taken out of the enable set since (log entry 20). -/
theorem test_edit_after_the_completion_is_not_seen :
    let s := slotIn 0 .on State.reset
    let s := { s with ssc := { s.ssc with enable := 0, toSlc := [tabulate fun _ => ⟨.fresh, some 1, 0⟩] } }
    seen (exec .slcScanDelivery s) (fun t => (t.slot 0).violations) = some 1 := by decide +kernel

/-! ### Cooling and characterisation (chapters 6 and 7) -/

/-- Section 6.13: at 40 °C the default curve gives 96 + 32 = 128. -/
theorem test_curve_at_forty : curveAt coldZone.curve 40 = 128 := by decide +kernel
theorem test_curve_ends : (curveAt coldZone.curve (-40), curveAt coldZone.curve 25, curveAt coldZone.curve 150) = (64, 64, 255) := by
  decide +kernel

theorem test_zone_curve_refuses_equal_temperatures :
    seen (exec (.setZoneCurve 3 (tabulate fun i => ⟨(i.val : Int) / 2, 100⟩)) (serving 14 81 [] State.reset)) (outcomeAt 14)
      = some (some .range) := by decide +kernel

theorem test_zone_limits_clamp :
    seen (exec (.setZoneLimits 3 ⟨256, 0, 0, 255, 200, 151, 32, 0, 30, 59⟩) (serving 14 82 [] State.reset))
      (fun t => ((t.zone 3).limits.floorDuty, (t.zone 3).limits.riseLimit, (t.zone 3).limits.inletLimit,
        (t.zone 3).limits.critical, outcomeAt 14 t)) = some (255, 1, 150, 60, some .clamped) := by decide +kernel

/-- Fans of type 1 in bays 2 and 3, at 6588 rpm, under a zone duty of 140. -/
def twoFans : State :=
  let fan : FanRec := { coldFan with type := 1, state := .running, command := 140, rpm := 6588, stallFloor := 40 }
  let s := (State.reset.modFan 2 fun _ => fan).modFan 3 fun _ => fan
  s.modZone 1 fun z => { z with duty := 140 }

/-- A delivery whose exhaust of zone 1 reads 40 °C and both inlets 36 °C. -/
def warmDelivery : Vector Reading 6 := tabulate fun n => ⟨.fresh, some (if n = 3 then 40 else if n.val < 2 then 36 else 20), 0⟩

/-- Section 6.13: the curve's 128 is raised by the boost of 32 to 160, and the duty follows at once. -/
theorem test_control_step_boosts :
    seen (exec .controlStep { twoFans with ssc := { twoFans.ssc with toClc := [warmDelivery] } })
      (fun t => ((t.zone 1).curveDemand, (t.zone 1).rawDemand, (t.zone 1).duty, (t.fan 2).command))
      = some (128, 160, 160, 160) := by decide +kernel

/-- Section 6.13: the third fail step in a row is a failure, and both fans of the zone go to 255. -/
theorem test_third_fail_step_fails_the_fan :
    let s := twoFans.modFan 3 fun r => { r with rpm := 0, failCount := 2 }
    seen (exec .controlStep { s with ssc := { s.ssc with toClc := [warmDelivery] } })
      (fun t => ((t.fan 3).state, (t.fan 3).failCount, (t.fan 2).command, (t.fan 3).command)) = some (.failed, 0, 255, 255) := by
  decide +kernel

theorem test_clear_fan_fault :
    seen (exec (.clearFanFault 3) (serving 14 85 [3] (twoFans.modFan 3 fun r => { r with state := .failed })))
      (fun t => ((t.fan 3).state, (t.fan 2).command)) = some (.running, 140) := by decide +kernel

theorem test_trip_input_latches :
    seen (exec .thermalTripInputAsserted twoFans)
      (fun t => (t.clc.trip, (t.fan 2).command, (t.zone 1).k, t.clc.reports, t.lines.tripInput)) = some (true, 255, 0, 1, true) := by
  decide +kernel

/-- R112: a critical temperature of 85 °C lets the trip clear below 80 °C. -/
theorem test_trip_clears_below_eighty :
    let s := State.reset
    let hot := fun v : Int => { s with
      ssc := { s.ssc with readings := put s.ssc.readings 4 ⟨.fresh, some v, 0⟩ }, clc := { s.clc with trip := true } }
    (seen (exec .clearThermalTrip (serving 14 86 [] (hot 80))) (outcomeAt 14),
      seen (exec .clearThermalTrip (serving 14 86 [] (hot 79))) (outcomeAt 14)) = (some (some .state), some (some .done)) := by
  decide +kernel

theorem test_trip_input_deasserted :
    seen (exec .thermalTripInputDeasserted { State.reset with lines := { idleLines with tripInput := true } })
      (fun t => t.lines.tripInput) = some false := by decide +kernel

theorem test_strap_inserts_a_fan :
    seen (exec (.fanStrapChange 7 3) State.reset)
      (fun t => ((t.fan 7).state, (t.fan 7).stallFloor, (t.record 27).identity, t.inv.generation))
      = some (.running, 32, some (.fan 3), 1) := by decide +kernel

/-- R105: 7500 µs between edges of a type-1 fan (2 pulses a turn) is 4000 rpm. -/
theorem test_tach_edge :
    let s := { twoFans with clc := { twoFans.clc with captures := put twoFans.clc.captures 2 (some 65000) } }
    seen (exec (.tachEdge 2 6964) s) (fun t => ((t.fan 2).rpm, (t.fan 2).lastPeriod)) = some (4000, some 7500) := by
  decide +kernel

theorem test_tach_overflow :
    seen (exec (.tachOverflow 2) twoFans) (fun t => ((t.fan 2).rpm, t.clc.captures.get 2)) = some (0, none) := by decide +kernel

/-- Section 7.7: the search of bay 2 starts at trial 128, its partner at the failover duty. -/
theorem test_characterise_starts_at_128 :
    seen (exec (.characteriseFan 2) (serving 14 83 [2] twoFans))
      (fun t => ((t.fan 2).state, (t.fan 2).command, (t.fan 3).command, t.clc.search))
      = some (.characterising, 128, 255, some ⟨2, 1500, 7, 0, 128, 3000⟩) := by decide +kernel

/-- The search of bay 2 at a bit, the fan turning at a speed. -/
def searching (bit : Fin 8) (r trial rpm : Nat) : State :=
  let s := twoFans.modFan 2 fun f => { f with state := .characterising, prior := some .running, command := trial, rpm := rpm }
  { s with clc := { s.clc with search := some ⟨2, 1500, bit, r, trial, 0⟩ } }

/-- Section 7.7: no spin at trial 32 keeps the bit, and 48 is next. -/
theorem test_search_keeps_a_bit :
    seen (exec .settleTimerExpiry (searching 5 0 32 0)) (fun t => (t.clc.search, (t.fan 2).command))
      = some (some ⟨2, 1500, 4, 32, 48, 3000⟩, 48) := by decide +kernel

/-- Section 7.7: the last bit spins at 37 with r = 36, so the stall floor is 37. -/
theorem test_search_passes :
    seen (exec .settleTimerExpiry (searching 0 36 37 1510))
      (fun t => ((t.fan 2).state, (t.fan 2).stallFloor, (t.fan 2).result, (t.fan 2).command, t.clc.search))
      = some (.running, 37, .pass, 140, none) := by decide +kernel

theorem test_stop_characterisation :
    seen (exec .stopCharacterisation (serving 14 84 [] (searching 5 0 32 0)))
      (fun t => ((t.fan 2).state, (t.fan 2).result, (t.port 14).tx))
      = some (.running, .aborted, [.response ⟨84, .done, .abortedBay 2⟩]) := by decide +kernel

/-! ### Uplinks and lanes (chapter 8), inventory (chapter 9) -/

/-- Bay 0 UP with fabric 1 and room for `capacity` lanes; slot 0 ON, lane 0 of fabric 1 waiting for it. -/
def laneWaits (capacity : Nat) : State :=
  let s := State.reset.modBay 0 fun r => { r with
    state := .up, present := true, linkUp := true, power := true, fabric := 1, capacity := capacity }
  let s := (slotIn 0 .on s).modLane 0 fun r => { r with fabric := 1, state := .waiting }
  { s with lxc := { s.lxc with waitList := [0] } }

/-- Lane 0 on its way to bay 0. -/
def laneMoves : State :=
  let s := ((laneWaits 1).modLane 0 fun r => { r with state := .moving 0 0 }).modBay 0 fun r => { r with movingIn := 1 }
  { s with lxc := { s.lxc with waitList := [] } }

theorem test_rescan_places_the_waiting_lane :
    (((rescan (laneWaits 1)).lane 0).state, (rescan (laneWaits 1)).lxc.waitList, ((rescan (laneWaits 0)).lane 0).state)
      = (.moving 0 20, [], .waiting) := by decide +kernel

theorem test_move_completes :
    seen (exec (.moveCompletion 0) laneMoves) (fun t => ((t.lane 0).state, (t.bay 0).bound, (t.bay 0).movingIn))
      = some (.bound 0, 1, 0) := by decide +kernel

/-- Section 8.11: a link drop displaces the lane, which waits again behind a bay that is not UP. -/
theorem test_link_drop_displaces :
    seen (exec (.linkUpDeasserted 0) laneMoves)
      (fun t => ((t.bay 0).state, (t.lane 0).state, t.lxc.waitList, (t.bay 0).movingIn)) = some (.down, .waiting, [0], 0) := by
  decide +kernel

theorem test_link_up_starts_the_hold :
    seen (exec (.linkUpAsserted 0) ((laneWaits 1).modBay 0 fun r => { r with state := .down, linkUp := false }))
      (fun t => ((t.bay 0).state, (t.bay 0).hold)) = some (.down, some 1000) := by decide +kernel

theorem test_link_hold_expires :
    seen (exec (.linkHoldExpiry 0) ((laneWaits 1).modBay 0 fun r => { r with state := .down, hold := some 0 }))
      (fun t => ((t.bay 0).state, (t.lane 0).state)) = some (.up, .moving 0 20) := by decide +kernel

theorem test_module_fault :
    seen (exec (.moduleFaultAsserted 0) laneMoves) (fun t => ((t.bay 0).state, (t.bay 0).power, (t.lane 0).state))
      = some (.fault, false, .waiting) := by decide +kernel

theorem test_module_fault_deasserted :
    seen (exec (.moduleFaultDeasserted 0) ((laneWaits 1).modBay 0 fun r => { r with state := .fault, moduleFault := true }))
      (fun t => ((t.bay 0).state, (t.bay 0).moduleFault)) = some (.fault, false) := by decide +kernel

theorem test_uplink_present :
    seen (exec (.uplinkPresentAsserted 3) State.reset) (fun t => ((t.bay 3).state, t.inv.readList)) = some (.identifying, [31]) := by
  decide +kernel

theorem test_uplink_removed :
    seen (exec (.uplinkPresentDeasserted 0) laneMoves) (fun t => ((t.bay 0).state, (t.bay 0).fabric, (t.lane 0).state))
      = some (.absent, 0, .incompatible) := by decide +kernel

theorem test_lane_preference_refuses_a_bay_twice :
    seen (exec (.setLanePreference 27 2 (tabulate fun _ => 3)) (serving 14 89 [27, 2, 3, 3, 3, 3] State.reset)) (outcomeAt 14)
      = some (some .range) := by decide +kernel

theorem test_lane_preference_of_one_bay :
    seen (exec (.setLanePreference 27 1 (tabulate fun _ => 3)) (serving 14 89 [27, 1, 3, 3, 3, 3] State.reset))
      (fun t => (t.lane 27).pref) = some [3] := by decide +kernel

theorem test_lane_disabled :
    seen (exec (.editLaneEnable 0 1) (serving 14 90 [] laneMoves)) (fun t => ((t.lane 0).state, (t.bay 0).movingIn))
      = some (.disabled, 0) := by decide +kernel

theorem test_lane_settings :
    (seen (exec (.setLinkHold 10001) (serving 14 92 [39, 17] State.reset)) (fun t => t.lxc.linkHold),
      seen (exec (.setMoveTime 0) (serving 14 93 [0] State.reset)) (fun t => t.lxc.moveTime),
      seen (exec (.setFailback .on) (serving 14 91 [] State.reset)) (fun t => t.lxc.failback))
      = (some 10000, some 1, some true) := by decide +kernel

/-- A supply block of 2000 W, serial "A": the bytes sum to 0 modulo 256. -/
def supplyBlock : List Byte := [0xA1, 0, 1, 1, 1, 65, 7, 208, 68]
/-- An uplink block of fabric 1, capacity 4, reserve 120 W, serial "A". -/
def uplinkBlock : List Byte := [0xA2, 0, 1, 1, 1, 65, 1, 4, 0, 120, 157]

theorem test_blocks_judged :
    (judgeBlock (.supply 0) supplyBlock, (judgeBlock (.supply 0) uplinkBlock).1, (judgeBlock (.uplink 0) (supplyBlock.set 8 69)).1)
      = ((.identified, some (.supply ⟨1, 1, [65]⟩ 2000)), .mismatch, .unreadable) := by decide +kernel

/-- The read of record `n` in flight, after its unit was found present. -/
def reading (c : Instr) : State := (seen (exec c State.reset) id).getD State.reset

theorem test_supply_identified :
    seen (exec (.identityReadEnd supplyBlock) (reading (.supplyPresentAsserted 0)))
      (fun t => ((t.supply 0).state, (t.supply 0).rating, (t.record 14).state, t.inv.generation, t.inv.readLeft))
      = some (.failed, 2000, .identified, 2, none) := by decide +kernel

/-- R181: bytes beyond the declared length are not listened to, and a block that breaks off leaves the read to its limit. -/
theorem test_read_listens_to_the_declared_length :
    (seen (exec (.identityReadEnd (supplyBlock ++ [9, 9])) (reading (.supplyPresentAsserted 0))) (fun t => (t.record 14).state),
      seen (exec (.identityReadEnd (supplyBlock.take 8)) (reading (.supplyPresentAsserted 0)))
        (fun t => ((t.record 14).state, t.inv.readLeft))) = (some .identified, some (.reading, some 100)) := by decide +kernel

theorem test_uplink_unreadable :
    seen (exec .identityReadTimeout (reading (.uplinkPresentAsserted 1)))
      (fun t => ((t.bay 1).state, (t.record 29).state)) = some (.fault, .unreadable) := by decide +kernel

theorem test_header_rejected :
    seen (exec (.identityHeaderReject 0xA1 17) (reading (.supplyPresentAsserted 0))) (fun t => (t.record 14).state)
      = some .unreadable := by decide +kernel

theorem test_reread_of_a_fan_is_refused :
    (seen (exec (.rereadIdentity 20) (serving 14 94 [20] State.reset)) (outcomeAt 14),
      seen (exec (.rereadIdentity 14) (serving 14 94 [14] (reading (.supplyPresentAsserted 0)))) (outcomeAt 14))
      = (some (some .range), some (some .busy)) := by decide +kernel

/-! ### Links and notices (chapters 10 to 12) -/

/-- Section 12.1: the check of 17 is 0x77, and of 17, 0 it is 0x42. -/
theorem test_crc_of_the_manual : (crc8 [17], crc8 [17, 0], checkGood [17, 0, 0x42]) = (0x77, 0x42, true) := by decide +kernel

/-- R161, R178: a BUSY answer is one frame of no payload, and 60 bytes are followed by an empty last frame. -/
theorem test_runs_of_frames :
    ((Transmission.busy 17).frames, (Transmission.response ⟨32, .done, .bytes (List.replicate 60 0)⟩).frames.map (·.length))
      = ([[17, 3, 0, 0xF6]], [64, 4]) := by decide +kernel

theorem test_frame_is_held :
    seen (exec (.requestFrame 3 [17, 0, 0x42]) State.reset) (fun t => ((t.port 3).state, (t.port 3).held))
      = some (.waiting, some ⟨17, []⟩) := by decide +kernel

theorem test_bad_check_is_dropped :
    seen (exec (.requestFrame 3 [17, 0, 0x43]) State.reset) (fun t => ((t.port 3).state, (t.port 3).tx)) = some (.idle, []) := by
  decide +kernel

/-- R160: one BUSY answer at a port that is not IDLE, and none while it waits. -/
theorem test_busy_once :
    let s := State.reset.modPort 3 fun r => { r with state := .waiting, held := some ⟨17, []⟩ }
    (seen (exec (.requestFrame 3 [17, 0, 0x42]) s) (fun t => (t.port 3).tx),
      seen (exec (.requestFrame 3 [17, 0, 0x42]) (s.modPort 3 fun r => { r with tx := [.busy 1] })) (fun t => (t.port 3).tx))
      = (some [.busy 17], some [.busy 1]) := by decide +kernel

theorem test_partial_frames_change_nothing :
    (seen (exec (.overlongLengthDiscard 3 17 61) State.reset) id, seen (exec (.interByteTimeout 3) State.reset) id)
      = (some State.reset, some State.reset) := by decide +kernel

/-- Ports 3, 9 and 14 waiting with Fetch Notices (section 10.2). -/
def threeWait : State :=
  [3, 9, 14].foldl (fun s p => s.modPort p fun r => { r with state := .waiting, held := some ⟨17, []⟩ }) State.reset

/-- Section 10.2, take 1: entry 0 names port 14. -/
theorem test_take_by_the_table :
    seen (exec .take threeWait) (fun t => (t.lnk.engine, t.lnk.pointer, t.lnk.lastLow)) = some (.serving 14, 1, 15) := by
  decide +kernel

/-- Section 10.2, take 2: port 15 is IDLE, and round-robin takes port 3. -/
theorem test_take_by_round_robin :
    let s := { threeWait.modPort 14 (fun r => { r with state := .idle, held := none }) with lnk :=
      { (threeWait.modPort 14 (fun r => { r with state := .idle, held := none })).lnk with pointer := 1 } }
    seen (exec .take s) (fun t => (t.lnk.engine, t.lnk.pointer, t.lnk.lastLow)) = some (.serving 3, 2, 3) := by decide +kernel

/-- R166: a primary's request from a supervisor that does not hold primacy. -/
theorem test_take_refuses_without_primacy :
    let s := State.reset.modPort 15 fun r => { r with state := .waiting, held := some ⟨96, []⟩ }
    seen (exec .take s) (fun t => (t.lnk.engine, outcomeAt 15 t, (t.port 15).state)) = some (.free, some .notPrimary, .answering) := by
  decide +kernel

theorem test_response_sent_frees_the_port :
    let s := State.reset.modPort 3 fun r => { r with state := .answering, tx := [.response ⟨17, .done, .empty⟩, .busy 1] }
    seen (exec (.responseSent 3 idleLines) s) (fun t => ((t.port 3).state, (t.port 3).tx)) = some (.idle, [.busy 1]) := by
  decide +kernel

theorem test_busy_answer_sent :
    seen (exec (.busyAnswerSent 3) (State.reset.modPort 3 fun r => { r with state := .waiting, tx := [.busy 1] }))
      (fun t => ((t.port 3).state, (t.port 3).tx)) = some (.waiting, []) := by decide +kernel

theorem test_claim_primacy_clamps :
    seen (exec (.claimPrimacy (some 61)) (serving 14 42 [61] State.reset))
      (fun t => (t.lnk.holder, t.lnk.period, t.lnk.periodLeft, outcomeAt 14 t))
      = some (some .a, 60, some 60000, some .clamped) := by decide +kernel

/-- Supervisor A holding primacy. -/
def primaryA : State := { State.reset with lnk := { State.reset.lnk with holder := some .a, periodLeft := some 10000 } }

theorem test_primacy_ends :
    (seen (exec .releasePrimacy (serving 15 43 [] primaryA)) (outcomeAt 15),
      seen (exec .releasePrimacy (serving 14 43 [] primaryA)) (fun t => t.lnk.holder),
      seen (exec .primacyPeriodExpiry primaryA) (fun t => (t.lnk.holder, t.lnk.periodLeft)))
      = (some (some .state), some none, some (none, none)) := by decide +kernel

theorem test_service_table :
    (seen (exec (.loadServiceTable 0 [⟨0, false, true⟩]) (serving 14 95 [0, 0, 0] primaryA)) (outcomeAt 14),
      seen (exec (.loadServiceTable 1 [⟨9, false, false⟩]) (serving 14 95 [1, 0, 0] primaryA))
        (fun t => (t.lnk.bank1.get 0, t.lnk.bank1.get 15)))
      = (some (some .state), some (⟨9, false, false⟩, vacantEntry)) := by decide +kernel

theorem test_swap_waits_for_an_end_entry :
    seen (exec .swapServiceTable (serving 14 96 [] primaryA)) (fun t => (t.lnk.swapPending, t.lnk.selectedBank))
      = some (true, 0) := by decide +kernel

theorem test_port_priority :
    seen (exec (.setPortPriority 0x0001) (serving 14 97 [0, 1] primaryA)) (fun t => ((t.port 0).cls, (t.port 14).cls))
      = some (.high, .low) := by decide +kernel

/-- Section 11.6: a slot link may not select HEADROOM_LOW, which is left out and answered CLAMPED. -/
theorem test_select_conditions :
    seen (exec (.selectConditions 0x0017 0) (serving 6 16 [0, 0x17, 0, 0] State.reset))
      (fun t => ((t.port 6).selected, outcomeAt 6 t)) = some (0x0007, some .clamped) := by decide +kernel

theorem test_fetch_empties_the_set :
    let s := State.reset.modPort 6 fun r => { r with selected := 1, pending := 1, attention := true }
    seen (exec .fetchNotices (serving 6 17 [] s)) (fun t => ((t.port 6).pending, (t.port 6).attention, (t.port 6).tx))
      = some (0, false, [.response ⟨17, .done, .bytes [0, 1]⟩]) := by decide +kernel

theorem test_post_reports_who_received :
    let s := State.reset.modPort 6 fun r => { r with selected := 0x8000 }
    seen (exec (.postNotice 0x00C0) (serving 14 98 [0, 0xC0] s)) (fun t => ((t.port 6).attention, (t.port 14).tx))
      = some (true, [.response ⟨98, .done, .bytes [0, 0x40]⟩]) := by decide +kernel

theorem test_restart_waits_for_its_response :
    seen (exec .restartController (serving 14 99 [] primaryA)) (fun t => (t.lnk.engine, outcomeAt 14 t))
      = some (.restarting 14, some .done) := by decide +kernel

theorem test_restart_is_a_warm_reset :
    let s := { primaryA.modPort 14 (fun r => { r with tx := [.response ⟨99, .done, .empty⟩] }) with lnk :=
      { (primaryA.modPort 14 (fun r => { r with tx := [.response ⟨99, .done, .empty⟩] })).lnk with engine := .restarting 14 } }
    seen (exec (.responseSent 14 idleLines) s) (fun t => (t.lnk.lastReset, t.lnk.holder, t.lnk.engine, (t.port 14).tx))
      = some (.warmRestart, none, .free, []) := by decide +kernel

theorem test_reset_input_measured :
    (seen (exec .resetInputAsserted State.reset) (fun t => t.lnk.resetMeasure),
      seen (exec (.resetInputHeld1s idleLines) { State.reset with lnk := { State.reset.lnk with resetMeasure := some 1000 } })
        (fun t => (t.lnk.lastReset, t.lnk.resetMeasure)),
      seen (exec (.resetInputDeasserted idleLines) { State.reset with lnk := { State.reset.lnk with resetMeasure := some 999 } })
        (fun t => (t.lnk.lastReset, t.lnk.resetMeasure)))
      = (some (some 0), some (.cold, none), some (.warmInput, none)) := by decide +kernel

/-- Lane 0 bound to bay 0, whose capacity is 1, and lanes 2 and 4 waiting for it in this order, with the reset input held. -/
def bayIsFull : State :=
  let s := (laneWaits 1).modBay 0 fun r => { r with bound := 1 }
  let s := slotIn 1 .on (slotIn 2 .on (s.modLane 0 fun r => { r with state := .bound 0 }))
  let s := (s.modLane 2 fun r => { r with fabric := 1, state := .waiting }).modLane 4 fun r => { r with
    fabric := 1, state := .waiting }
  { s with lxc := { s.lxc with waitList := [2, 4] }, lnk := { s.lnk with resetMeasure := some 10 } }

/-- R147: slot 0's blade is found gone; its room goes to the first of the wait list, which keeps its order. -/
theorem test_warm_reset_keeps_the_wait_order :
    seen (exec (.resetInputDeasserted { idleLines with presence := 6, uplinkPresent := 1, linkUp := 1 }) bayIsFull)
      (fun t => ((t.lane 0).state, (t.lane 2).state, (t.lane 4).state, t.lxc.waitList))
      = some (.none, .moving 0 20, .waiting, [4]) := by decide +kernel

/-! ### Reads -/

/-- Section 12.3, every byte: slot 13 STOPPING at its default policy, m 500 W, c 90, floor 300 W, maximum 2047 W. -/
theorem test_read_own_slot_payload :
    let s := (powered 13 .stopping 1 300 500 State.reset).modSlot 13 fun r => { r with c := 90 }
    seen (exec .readOwnSlot (serving 13 5 [13] s)) (fun t => (t.port 13).tx)
      = some [.response ⟨5, .done, .bytes [13, 8, 9, 1, 3, 0, 30, 0, 0, 0, 100, 1, 244, 90, 1, 44, 10, 0, 1, 0, 0, 117, 48, 0, 0, 0,
          1, 44, 7, 255]⟩] := by decide +kernel

theorem test_reads_answer_done_or_range :
    ([(Instr.readSlot 13, (32 : Byte), [(13 : Byte)]), (.readSlot 14, 32, [14]), (.readSupply 5, 33, [5]), (.readSupply 6, 33, [6]),
      (.readBudget, 34, []), (.readSequencer, 35, []), (.readZone 4, 36, [4]), (.readFan 8, 37, [8]), (.readLane 28, 39, [28]),
      (.readLane 255, 39, [255]), (.readBay 4, 40, [4]), (.readInventoryRecord 32, 41, [32]), (.readChassisSummary, 18, [])].map
      fun c => (seen (exec c.1 (serving 14 c.2.1 c.2.2 State.reset)) (outcomeAt 14)).join)
      = [some .done, some .range, some .done, some .range, some .done, some .done, some .range, some .range, some .range,
          some .done, some .range, some .range, some .done] := by decide +kernel

/-! ### Witnesses: each statement's hypotheses met by a concrete state and operands, clause by clause, at the ends of the ranges -/

/-- One request served at its port: the hypothesis of every statement about a service. -/
abbrev Served (p : Port) (kind : Byte) (payload : List Byte) (s : State) : Prop :=
  Serving (serving p kind payload s) p kind payload

theorem serving_slot (p : Port) (kind : Byte) (payload : List Byte) (s : State) (i : SlotId) :
    (serving p kind payload s).slot i = s.slot i := rfl

theorem slotIn_state (i : SlotId) (st : SlotState) (s : State) : ((slotIn i st s).slot i).state = st := by
  simp [slotIn, modSlot_slot]

/-- A supervisor's request about slot 13 in each of the ten states, and one that names slot 14. -/
theorem served_in_every_state (kind : Byte) :
    (∀ st, Served 14 kind [13] (slotIn 13 st State.reset)
      ∧ ((serving 14 kind [13] (slotIn 13 st State.reset)).slot 13).state = st ∧ (13 : Byte).toNat = (13 : SlotId).val)
    ∧ Served 14 kind [14] State.reset ∧ 13 < (14 : Byte).toNat :=
  ⟨fun st => ⟨serving_serves .., slotIn_state 13 st _, by decide⟩, serving_serves .., by decide⟩

/-- A blade's own request in each of the ten states, at the first and the last slot. -/
theorem served_own_in_every_state (kind : Byte) (st : SlotState) :
    (Served (slotPort 0) kind [0] (slotIn 0 st State.reset)
      ∧ ((serving (slotPort 0) kind [0] (slotIn 0 st State.reset)).slot 0).state = st)
    ∧ Served (slotPort 13) kind [13] (slotIn 13 st State.reset)
      ∧ ((serving (slotPort 13) kind [13] (slotIn 13 st State.reset)).slot 13).state = st :=
  ⟨⟨serving_serves .., slotIn_state 0 st _⟩, serving_serves .., slotIn_state 13 st _⟩

/-- A request whose last byte, `b`, is above the ranges of a slot (13), a fan bay (7) and a lane (27). -/
theorem served_out_of_range (kind : Byte) (payload : List Byte) :
    Served 14 kind payload State.reset ∧ 7 < (8 : Byte).toNat ∧ 13 < (14 : Byte).toNat ∧ 27 < (28 : Byte).toNat :=
  ⟨serving_serves .., by decide⟩

theorem witness_StepRunsTheFrontCommand :
    State.reset.pending = []
      ∧ ({ State.reset with psq := { coldPsq with resource := .gap 1 } }).psq.resource = .gap 1
      ∧ ({ State.reset with psq := { coldPsq with resource := .precharging 13 .urgent true 0 } }).psq.resource
          = .precharging 13 .urgent true 0 := by decide +kernel

/-- A state with a pending notice, sound, and the step on its empty queue. -/
def noticed : State := raise .slotState everyPort (listening State.reset)

theorem witness_NoticesSoundKeptByEveryStep :
    NoticesSound noticed ∧ (noticed.port 13).pending ≠ 0 ∧ step noticed = .next (tick noticed) := by
  refine ⟨?_, by decide +kernel, rfl⟩
  unfold NoticesSound; decide +kernel

theorem witness_ThermalFactorsKeptByEveryStep :
    FactorsSound ((seen (exec .thermalTripInputAsserted twoFans) id).getD twoFans)
      ∧ ((seen (exec .thermalTripInputAsserted twoFans) id).getD twoFans).clc.trip = true
      ∧ FactorsSound twoFans ∧ step twoFans = .next (tick twoFans) := by
  refine ⟨?_, by decide +kernel, ?_, rfl⟩ <;> (unfold FactorsSound; decide +kernel)

theorem witness_ReadingsSoundKeptByEveryStep :
    let s := { State.reset with pending := [.channelReadEnd .failed] }
    ReadingsSound s ∧ step s = exec (.channelReadEnd .failed) State.reset := by
  refine ⟨?_, rfl⟩
  unfold ReadingsSound; decide +kernel

/-- Slots 0, 1 and 2 in DETECTING, SEATED and ON, the others EMPTY. -/
def arriving : State := slotIn 0 .detecting (slotIn 1 .seated (slotIn 2 .on State.reset))

theorem arriving_sound : SequencerSound arriving ∧ SlotsSound arriving := by
  have free : arriving.psq.resource = .free := by decide +kernel
  refine ⟨⟨by decide +kernel, fun i src => ?_, by decide +kernel, by decide +kernel, fun i n l h => ?_, fun i n l h => ?_,
    by decide +kernel⟩, ?_, ?_, ?_, ?_⟩
  · cases src <;> revert i <;> decide +kernel
  · exact nomatch free.symm.trans h
  · exact nomatch free.symm.trans h
  all_goals decide +kernel

/-- The strap of bay 7 taken and the supply of bay 0 found: a fan record and a read list that are not empty. -/
def furnished : State := (seen (exec (.fanStrapChange 7 3) (reading (.supplyPresentAsserted 0))) id).getD State.reset

theorem witness_RecordsSoundKeptByEveryStep :
    ReadListSound furnished ∧ furnished.inv.readList = [14] ∧ furnished.inv.readLeft = some 100 ∧ FansSound furnished
      ∧ (furnished.fan 7).state = .running ∧ furnished.clc.search = none ∧ step furnished = .next (tick furnished)
      ∧ SequencerSound arriving ∧ SlotsSound arriving ∧ step arriving = .next (tick arriving) := by
  have h : furnished.clc.search = none := by decide +kernel
  refine ⟨?_, by decide +kernel, by decide +kernel, ⟨?_, by simp [h]⟩, by decide +kernel, h, rfl, arriving_sound.1,
    arriving_sound.2, rfl⟩
  · unfold ReadListSound; decide +kernel
  · decide +kernel

/-- A precharge of the queue's, an ON slot, a slot in STOPPING(SHED), and slots held by all three sources. -/
def busyChassis : State :=
  let s := slotIn 4 .queued (slotIn 6 .queued (slotIn 8 .queued (powered 9 .precharge 1 300 300 (powered 1 .on 3 100 200
    (powered 2 .stopping 1 250 250 (supplied 800 State.reset))))))
  let s := (s.modSlot 6 fun r => { r with holdingSource := some .queue }).modSlot 8 fun r => { r with
    holdingSource := some .admission }
  let s := s.modSlot 2 fun r => { r with stopReason := some .shed }
  { s with
    bdu := { s.bdu with shedSet := [2] }
    psq := { s.psq with
      resource := .precharging 9 .queue true 50, urgentEntry := some ⟨4, false, false⟩, queue := [⟨6, true, false⟩]
      pendingSet := 0x0100 } }

theorem busyChassis_sequencer_sound : SequencerSound busyChassis := by
  refine ⟨by decide +kernel, fun i src => ?_, by decide +kernel, by decide +kernel, fun i n l h => ?_, fun i n l h => rfl,
    by decide +kernel⟩
  · cases src <;> revert i <;> decide +kernel
  · exact absurd h (by simp [busyChassis])

theorem busyChassis_budget_sound : BudgetSound busyChassis ∧ FloorsCovered busyChassis := by
  refine ⟨⟨?_, ?_, ?_, ?_, ?_, ?_, ?_, ?_⟩, ?_⟩ <;> (try unfold FloorsCovered) <;> decide +kernel

theorem witness_SequencerSoundKeptByEveryStep :
    SequencerSound busyChassis ∧ heldSlots busyChassis.psq = [4, 6, 8] ∧ prechargingSlot busyChassis.psq = some 9
      ∧ step busyChassis = .next (tick busyChassis) :=
  ⟨busyChassis_sequencer_sound, by decide +kernel, by decide +kernel, rfl⟩

theorem witness_BudgetSoundKeptByEveryStep :
    SequencerSound busyChassis ∧ BudgetSound busyChassis ∧ FloorsCovered busyChassis ∧ busyChassis.bdu.shedSet = [2]
      ∧ committed busyChassis = 650 ∧ step busyChassis = .next (tick busyChassis) :=
  ⟨busyChassis_sequencer_sound, busyChassis_budget_sound.1, busyChassis_budget_sound.2, by decide +kernel, by decide +kernel,
    rfl⟩

theorem witness_SlotPresenceAndTimers :
    ((slotIn 0 .empty State.reset).slot 0).state = .empty ∧ ((slotIn 13 .mute State.reset).slot 13).state ≠ .empty
      ∧ ((slotIn 13 .detecting State.reset).slot 13).state = .detecting
      ∧ ((slotIn 13 .detecting State.reset).slot 13).presence = true
      ∧ ((slotIn 13 .detecting State.reset).slot 13).debounce ≠ none
      ∧ ((slotIn 13 .seated State.reset).slot 13).state = .seated
      ∧ ((slotIn 13 .seated State.reset).slot 13).announceTimer ≠ none := by decide +kernel

/-- Every state of the slot, for the statements that split by it; and both sides of the record's generation. -/
theorem witness_SurpriseExtractionUndoesAll :
    (∀ st, ((slotIn 13 st State.reset).slot 13).state = st)
      ∧ (State.reset.record (bladeRecord 13)) = ⟨.absent, .none, none⟩
      ∧ ((blade 13 0 2047 State.reset).record (bladeRecord 13)).state ≠ .absent :=
  ⟨fun st => slotIn_state 13 st _, by decide +kernel, by decide +kernel⟩

theorem witness_LatchTable :
    (∀ st, ((slotIn 0 st State.reset).slot 0).state = st)
      ∧ (((slotIn 0 .standby State.reset).modSlot 0 fun r => { r with autoPowerOn := true }).slot 0).state = .standby
      ∧ (((slotIn 0 .standby State.reset).modSlot 0 fun r => { r with autoPowerOn := true }).slot 0).autoPowerOn = true :=
  ⟨fun st => slotIn_state 0 st _, by decide +kernel, by decide +kernel⟩

theorem witness_SlotFaultLines :
    ((slotIn 13 .precharge State.reset).slot 13).state.powered = true ∧ ((slotIn 0 .on State.reset).slot 0).state.running = true
      ∧ ((slotIn 0 .stopping State.reset).slot 0).state.running = true
      ∧ ((slotIn 13 .precharge State.reset).slot 13).state.running = false
      ∧ ((slotIn 0 .queued State.reset).slot 0).state.powered = false := by decide +kernel

theorem witness_PowerOffTable :
    (∀ st, Served 14 77 [13] (slotIn 13 st State.reset) ∧ ((slotIn 13 st State.reset).slot 13).state = st)
      ∧ Served 14 77 [14] State.reset ∧ 13 < (14 : Byte).toNat :=
  ⟨fun st => ⟨((served_in_every_state 77).1 st).1, slotIn_state 13 st _⟩, (served_in_every_state 77).2⟩

theorem witness_ReleasePowerTable (st : SlotState) :
    Served (slotPort 13) 3 [13] (slotIn 13 st State.reset)
      ∧ ((serving (slotPort 13) 3 [13] (slotIn 13 st State.reset)).slot 13).state = st :=
  (served_own_in_every_state 3 st).2

theorem witness_StopsForced :
    (∀ st, Served 14 78 [13] (slotIn 13 st State.reset) ∧ ((slotIn 13 st State.reset).slot 13).state = st)
      ∧ ((slotIn 13 .stopping State.reset).slot 13).deadline ≠ none
      ∧ Served 14 78 [14] State.reset ∧ 13 < (14 : Byte).toNat :=
  ⟨fun st => ⟨((served_in_every_state 78).1 st).1, slotIn_state 13 st _⟩, by decide +kernel, serving_serves .., by decide⟩

theorem witness_ResetPulseAndClearFault :
    (∀ st, Served 14 79 [13] (slotIn 13 st State.reset) ∧ ((slotIn 13 st State.reset).slot 13).state = st)
      ∧ ((slotIn 13 .on State.reset).slot 13).pulse = .idle ∧ ((slotIn 13 .on State.reset).slot 13).resetDelay = 0
      ∧ (((slotIn 13 .on State.reset).modSlot 13 fun r => { r with resetDelay := 1000 }).slot 13).resetDelay ≠ 0
      ∧ (((slotIn 13 .on State.reset).modSlot 13 fun r => { r with pulse := .delaying 0 1000 }).slot 13).pulse = .delaying 0 1000
      ∧ (((slotIn 13 .on State.reset).modSlot 13 fun r => { r with pulse := .asserting 1 }).slot 13).pulse = .asserting 1
      ∧ (∀ st, Served 14 80 [13] (slotIn 13 st State.reset)) ∧ Served 14 79 [14] State.reset ∧ Served 14 80 [14] State.reset
      ∧ 13 < (14 : Byte).toNat :=
  ⟨fun st => ⟨((served_in_every_state 79).1 st).1, slotIn_state 13 st _⟩, by decide +kernel, by decide +kernel,
    by decide +kernel, by decide +kernel, by decide +kernel, fun st => ((served_in_every_state 80).1 st).1, serving_serves ..,
    serving_serves .., by decide⟩

/-- A delivery of power readings to slot 0, ON at a cap of 368 W: above the threshold, at it, at the cap, and STALE. -/
theorem witness_ThrottleJudged :
    let s := fun r : Reading => { (slotIn 0 .on State.reset).modSlot 0 (fun x => { x with cap := 368 }) with
      ssc := { State.reset.ssc with toSlc := [tabulate fun _ => r] } }
    (∀ r, (s r).ssc.toSlc = (tabulate fun _ => r) :: [])
      ∧ ((s ⟨.fresh, some 392, 0⟩).slot 0).state = .on ∧ ((s ⟨.fresh, some 392, 0⟩).slot 0).cap = 368
      ∧ (368 + 368 / 16 : Int) < 392 ∧ (391 : Int) ≤ 368 + 368 / 16
      ∧ ((tabulate fun _ => ⟨.stale, some 392, 3⟩ : Vector Reading 14).get 0).state ≠ .fresh := by
  refine ⟨fun _ => rfl, ?_⟩
  decide +kernel

theorem witness_AnnounceTable (st : SlotState) :
    Served (slotPort 13) 1 (lowMaximum.bytes (slotPort 13)) (slotIn 13 st State.reset)
      ∧ ((slotIn 13 st State.reset).slot 13).state = st
      ∧ Served (slotPort 0) 1 ((AnnounceArgs.mk 0 0 2047 2047 16 15 []).bytes (slotPort 0)) State.reset
      ∧ (¬ lowMaximum.serial = [] ∧ lowMaximum.serial.length ≤ 16 ∧ lowMaximum.fabricA.toNat ≤ 15) :=
  ⟨serving_serves .., slotIn_state 13 st _, serving_serves .., by decide +kernel⟩

theorem witness_BladePowerRequests (st : SlotState) :
    Served (slotPort 13) 2 [13] (slotIn 13 st State.reset)
      ∧ ((serving (slotPort 13) 2 [13] (slotIn 13 st State.reset)).slot 13).state = st
      ∧ ((slotIn 13 .standby State.reset).slot 13).latchOpen = false ∧ ((slotIn 13 .standby State.reset).slot 13).mayRequest = true
      ∧ (((slotIn 13 .standby State.reset).modSlot 13 fun r => { r with hold := true }).slot 13).hold = true
      ∧ (((slotIn 13 .standby State.reset).modSlot 13 fun r => { r with latchOpen := true }).slot 13).latchOpen = true
      ∧ 65535 < 65536 ∧ Served (slotPort 13) 4 [13, 255, 255, 255] (slotIn 13 st State.reset)
      ∧ ((powered 13 .on 1 300 500 (supplied 1000 State.reset)).slot 13).m ≠ 300
      ∧ committed (powered 13 .on 1 300 500 (supplied 1000 State.reset)) ≤ pool (powered 13 .on 1 300 500 (supplied 1000 State.reset)) :=
  ⟨(served_own_in_every_state 2 st).2.1, (served_own_in_every_state 2 st).2.2, by decide +kernel, by decide +kernel,
    by decide +kernel, by decide +kernel, by decide, serving_serves .., by decide +kernel, by decide +kernel⟩

theorem witness_SlotSettings :
    (∀ s, Served 14 65 [] s) ∧ (∀ s, Served 14 66 [] s) ∧ (13 : Byte).toNat = (13 : SlotId).val ∧ 13 < (14 : Byte).toNat
      ∧ (∀ (zones : Vector Byte 14) (s : State), Served 14 67 zones.toList s)
      ∧ (State.reset.slot 13).state ≠ .on ∧ (splitTier.slot 0).state = .on ∧ (splitTier.slot 0).tier ≠ 1
      ∧ (splitTier.slot 0).zone.val ≠ (3 : Byte).toNat ∧ committed splitTier ≤ pool splitTier
      ∧ (¬ ∃ i, 3 < ((tabulate fun _ => 3 : Vector Byte 14).get i).toNat)
      ∧ ∃ i, 3 < ((tabulate fun _ => 4 : Vector Byte 14).get i).toNat :=
  ⟨fun _ => serving_serves .., fun _ => serving_serves .., by decide, by decide, fun _ _ => serving_serves .., by decide +kernel,
    by decide +kernel, by decide +kernel, by decide +kernel, by decide +kernel, by decide +kernel, ⟨13, by decide +kernel⟩⟩

theorem witness_PowerOnRequests :
    Served 14 68 [] State.reset ∧ 13 < (14 : Byte).toNat ∧ (13 : Byte).toNat = (13 : SlotId).val
      ∧ ((slotIn 13 .mute State.reset).slot 13).state ≠ .standby ∧ ((slotIn 13 .standby State.reset).slot 13).state = .standby
      ∧ ((slotIn 13 .standby State.reset).slot 13).latchOpen = false ∧ State.reset.psq.urgentEntry = none
      ∧ ({ State.reset with psq := { coldPsq with urgentEntry := some ⟨0, false, false⟩ } }).psq.urgentEntry ≠ none
      ∧ Served 14 69 (List.replicate 6 0) staged ∧ (List.replicate 6 (0 : Byte)).length = 2 * 3
      ∧ (let places : List PlaceArg := [⟨3, .off, .off⟩, ⟨5, .on, .off⟩, ⟨7, .off, .on⟩]
        1 ≤ places.length ∧ places.length ≤ 14 ∧ (∀ q ∈ places, q.slot.toNat ≤ 13) ∧ (places.map (·.slot)).Nodup
          ∧ ∀ i : SlotId, i.val ∈ places.map (·.slot.toNat) → (staged.slot i).state = .standby ∧ (staged.slot i).latchOpen = false)
      ∧ Served 14 69 [0, 0] State.reset ∧ ¬ (14 : Byte).toNat ≤ 13 ∧ (State.reset.slot 13).state ≠ .standby :=
  ⟨serving_serves .., by decide, by decide, by decide +kernel, by decide +kernel, by decide +kernel, by decide +kernel,
    by decide +kernel, serving_serves .., by decide, by decide +kernel, serving_serves .., by decide, by decide +kernel⟩

theorem witness_QueueTriggers :
    Served 14 70 [] stagedQueue ∧ (stagedQueue.psq.queueBackup <|> stagedQueue.psq.queue.head?).any (·.wait) = true
      ∧ Served 14 70 [] State.reset ∧ (State.reset.psq.queueBackup <|> State.reset.psq.queue.head?).any (·.wait) = false
      ∧ State.reset.ssc.source ≠ .sync
      ∧ (let s := { State.reset with ssc := { State.reset.ssc with source := .sync } }
        s.ssc.source = .sync ∧ s.ssc.scan ≠ none
          ∧ ({ s with ssc := { s.ssc with scan := none } }).ssc.scan = none ∧ enabledChannels s ≠ []) :=
  ⟨serving_serves .., by decide +kernel, serving_serves .., by decide +kernel, by decide +kernel, by decide +kernel⟩

theorem witness_AdmissionGroupAndSettings :
    Served 14 71 [0x3F, 0xFF, 0, 0] State.reset ∧ (0x3FFF#16).toNat < 2 ^ 14 ∧ 2 ^ 14 ≤ (0x4000#16).toNat
      ∧ Served 14 72 [] State.reset ∧ Served 14 73 [] State.reset ∧ Served 14 74 [] State.reset
      ∧ FlagArg.on.value = some true ∧ StartModeArg.preempt.value = some .preempt ∧ (3 : Fin 4).val = min 3 4
      ∧ TriggerArg.sync ≠ .other :=
  ⟨serving_serves .., by decide, by decide, serving_serves .., serving_serves .., serving_serves .., by decide +kernel⟩

theorem witness_RemoveNextAndFlush :
    Served 14 75 [] stagedQueue ∧ Served 14 76 [] stagedQueue ∧ SourceArg.other.value = none
      ∧ SourceArg.queue.value = some .queue ∧ considered stagedQueue.psq .urgent = none
      ∧ considered stagedQueue.psq .queue = some ⟨5, true, false⟩ ∧ heldBy stagedQueue.psq .queue ≠ [] :=
  ⟨serving_serves .., serving_serves .., by decide +kernel⟩

theorem witness_InrushTimersExpire :
    (let s := powered 13 .precharge 1 300 500 (supplied 1000 State.reset)
      let s := { s with psq := { s.psq with resource := .precharging 13 .queue true 0 } }
      s.psq.resource = .precharging 13 .queue true 0 ∧ (s.slot 13).state = .precharge ∧ s.lines.powerGood.getLsbD 13 = false
        ∧ committed s ≤ pool s
        ∧ ({ s with lines := { s.lines with powerGood := 0x2000 } }).lines.powerGood.getLsbD 13 = true
        ∧ ((listening s).port 14).selected.getLsbD 10 = true)
      ∧ ({ State.reset with psq := { coldPsq with resource := .gap 0 } }).psq.resource = .gap 0 := by decide +kernel

/-- Slot 13 alone in each source, with the resource FREE and room for it. -/
theorem witness_RoundStartsWinner :
    State.reset.psq.resource = .free ∧ winner State.reset = none
      ∧ (let s := blade 13 1000 2000 (slotIn 13 .queued (supplied 1000 State.reset))
        winner { s with psq := { s.psq with urgentEntry := some ⟨13, false, true⟩ } } = some (.urgent, ⟨13, false, true⟩)
          ∧ winner { s with psq := { s.psq with queue := [⟨13, false, true⟩] } } = some (.queue, ⟨13, false, true⟩)
          ∧ winner { s with psq := { s.psq with pendingSet := 0x2000 } } = some (.admission, ⟨13, false, false⟩)
          ∧ s.lines.overcurrent.getLsbD 13 = false) := by decide +kernel

theorem witness_WinnerIsRankedFirst :
    let s := blade 13 0 0 (blade 12 0 0 (supplied 1000 State.reset))
    let s := { s with psq := { s.psq with queue := [⟨13, false, true⟩], pendingSet := 0x1000 } }
    winner s = some (.queue, ⟨13, false, true⟩) ∧ candidate s 0 .admission = some ⟨12, false, false⟩
      ∧ Source.admission ≠ .queue
      ∧ candidate { s with psq := { s.psq with queueBackup := some ⟨11, false, true⟩ } } 0 .queue = some ⟨11, false, true⟩
      ∧ candidate { s with psq := { s.psq with queue := [⟨13, true, true⟩] } } 0 .queue = none := by decide +kernel

/-- Slot 9 in precharge for the queue at 300 W under a pool of 550 W, and slot 2 (500 W) urgent. -/
def outranked : State :=
  let s := powered 9 .precharge 1 300 300 (blade 2 500 900 (slotIn 2 .queued (supplied 550 State.reset)))
  { s with psq := { s.psq with resource := .precharging 9 .queue true 50, urgentEntry := some ⟨2, false, false⟩ } }

theorem outranked_sound : SequencerSound outranked := by
  refine ⟨by decide +kernel, fun i src => ?_, by decide +kernel, by decide +kernel, fun i n l h => ?_, fun i n l h => rfl,
    by decide +kernel⟩
  · cases src <;> revert i <;> decide +kernel
  · exact absurd h (by simp [outranked])

/-- A source that may preempt and has a candidate, and none that may; a winner whose overcurrent line is asserted. -/
theorem witness_RoundPreemptsAndFaultsAtTheSwitch :
    SequencerSound outranked ∧ outranked.psq.resource = .precharging 9 .queue true 50
      ∧ (Source.urgent ≠ .queue ∧ (outranked.psq.settingsOf .urgent).mode = .preempt
        ∧ (outranked.psq.settingsOf .queue).priority < (outranked.psq.settingsOf .urgent).priority)
      ∧ candidate outranked ((outranked.bdu.floors.get 9).getD 0) .urgent = some ⟨2, false, false⟩
      ∧ (outranked.psq.settingsOf .admission).mode = .wait ∧ outranked.lines.overcurrent.getLsbD 2 = false
      ∧ (let s := { outranked with psq := { outranked.psq with urgentEntry := none } }
        candidate s ((s.bdu.floors.get 9).getD 0) .urgent = none)
      ∧ (let s := blade 13 1000 2000 (slotIn 13 .queued (supplied 1000 State.reset))
        let s := { s with psq := { s.psq with pendingSet := 0x2000 }, lines := { s.lines with overcurrent := 0x2000 } }
        s.psq.resource = .free ∧ winner s = some (.admission, ⟨13, false, false⟩) ∧ s.lines.overcurrent.getLsbD 13 = true) :=
  ⟨outranked_sound, by decide +kernel⟩

theorem witness_SupplyLinesFollowed :
    (State.reset.supply 5).state = .absent ∧ State.reset.record (supplyRecord 5) = ⟨.absent, .none, none⟩
      ∧ supplyRecord 5 ∉ State.reset.inv.readList ∧ ((supplied 1000 State.reset).supply 0).state = .healthy
      ∧ (((supplied 1000 State.reset).modSupply 0 fun r => { r with state := .failed }).supply 0).state = .failed := by
  decide +kernel

theorem witness_BudgetEvents :
    Served 14 64 [] State.reset ∧ ModeArg.nPlusN.value = some .nPlusN ∧ FlagArg.off.value = some false
      ∧ ({ splitTier with clc := { splitTier.clc with reports := 1 } }).clc.reports ≠ 0
      ∧ committed splitTier ≤ pool splitTier ∧ (splitTier.slot 0).state = .on :=
  ⟨serving_serves .., by decide +kernel⟩

/-- The side falls, rises, and the condition changes, at a headroom on either side of the threshold of 200 W. -/
theorem witness_EvaluationRecordsSideAndCondition :
    ((evaluate 0 (supplied 199 State.reset)).bdu.side, (evaluate 0 (supplied 200 State.reset)).bdu.side,
      State.reset.bdu.redundancy, (evaluate 0 State.reset).bdu.redundancy) = (.below, .atOrAbove, .met, .lost)
      ∧ ((evaluate 0 (supplied 199 State.reset)).psq.roundDue, (evaluate 199 (supplied 199 State.reset)).psq.roundDue) = (true, false)
      ∧ (let s := evaluate 0 (listening splitTier)
        ((s.port 0).pending.getLsbD 1, (s.port 13).pending.getLsbD 1, (s.port 14).pending.getLsbD 1) = (true, false, true)) := by
  decide +kernel

theorem witness_TierSplitSpendsTheExtra :
    extraBefore splitTier 3 = 122 ∧ tierWant splitTier 3 = 900 ∧ (splitTier.slot 0).tier = 3 ∧ (splitTier.slot 1).state = .on := by
  decide +kernel

theorem witness_CapsStayWithinThePool :
    committed splitTier ≤ pool splitTier ∧ (splitTier.slot 0).state = .on ∧ splitTier.floor 0 ≤ (splitTier.slot 0).m
      ∧ (splitTier.zone (splitTier.slot 0).zone).k = 100
      ∧ (((splitTier.modZone 0 fun z => { z with k := 0 }).zone 0).k = 0) := by decide +kernel

/-- The floors exceed the pool with a precharge in flight, an ON slot above floor 0 and a slot in STOPPING to be relabelled, under
the invariants; and the one slot of a shed set. -/
theorem witness_ShedSelectionStops :
    (let s := { busyChassis.modSupply 0 (fun r => { r with rating := 50 }) with
        psq := { busyChassis.psq with urgentEntry := none } }
      let s := s.modSlot 4 fun r => { r with state := .standby, holdingSource := none }
      pool s < uncoveredFloors s ∧ (s.slot 9).state = .precharge ∧ SequencerSound s ∧ BudgetSound s)
    ∧ (2 : SlotId) ∈ busyChassis.bdu.shedSet ∧ busyChassis.bdu.shedSet = [2] ∧ SequencerSound busyChassis
    ∧ BudgetSound busyChassis ∧ FloorsCovered busyChassis ∧ uncoveredFloors busyChassis ≤ pool busyChassis := by
  refine ⟨⟨by decide +kernel, by decide +kernel, ?_, ?_⟩, by decide +kernel, by decide +kernel, busyChassis_sequencer_sound,
    busyChassis_budget_sound.1, busyChassis_budget_sound.2, busyChassis_budget_sound.2⟩
  · refine ⟨by decide +kernel, fun i src => ?_, by decide +kernel, by decide +kernel, fun i n l h => ?_, fun i n l h => rfl,
      by decide +kernel⟩
    · cases src <;> revert i <;> decide +kernel
    · exact absurd h (by simp [busyChassis])
  · refine ⟨?_, ?_, ?_, ?_, ?_, ?_, ?_, ?_⟩ <;> decide +kernel

theorem witness_VictimsNamedInShedOrder :
    (([11, 3, 2] : List SlotId).map fun i => if i = 3 then 250 else if i = 2 then 300 else 0).sum ≤ 900
      ∧ nameVictims (fun i : SlotId => if i = 3 then 250 else if i = 2 then 300 else 0) 150 [11, 3, 2] 900 = ([3, 2], 350)
      ∧ nameVictims (fun i : SlotId => if i = 3 then 250 else if i = 2 then 300 else 0) 700 [11, 3, 2] 900 = ([3], 650) := by
  decide +kernel

theorem witness_ReadsReturnAndChangeNothing :
    Served (slotPort 13) 5 [13] State.reset ∧ (∀ kind b : Byte, Served 14 kind [b] State.reset)
      ∧ (∀ kind : Byte, Served 14 kind [] State.reset)
      ∧ (13 : Byte).toNat = (13 : SlotId).val ∧ (5 : Byte).toNat = (5 : SupplyBay).val ∧ (3 : Byte).toNat = (3 : ZoneId).val
      ∧ (7 : Byte).toNat = (7 : FanBay).val ∧ (27 : Byte).toNat = (27 : LaneId).val ∧ (31 : Byte).toNat = (31 : RecNo).val
      ∧ (255 : Byte) = 255 ∧ (28 : Byte) ≠ 255 ∧ 31 < (32 : Byte).toNat :=
  ⟨serving_serves .., fun _ _ => serving_serves .., fun _ => serving_serves .., by decide⟩

theorem witness_ScansScheduledAndChannelsEdited :
    State.reset.ssc.periodTimer ≠ none ∧ State.reset.ssc.scan ≠ none
      ∧ ({ State.reset with ssc := { State.reset.ssc with scan := none } }).ssc.scan = none ∧ enabledChannels State.reset ≠ []
      ∧ enabledChannels { State.reset with ssc := { State.reset.ssc with enable := 0 } } = []
      ∧ ScanSourceArg.request.value = some .request ∧ Served 14 44 [] State.reset ∧ Served 14 87 [] State.reset
      ∧ Served 14 88 [0x0F, 0xFF, 0xFF, 0, 0, 0] State.reset ∧ (0x0FFFFF#24).toNat < 2 ^ 20 ∧ 2 ^ 20 ≤ (0x100000#24).toNat
      ∧ Served 15 38 [19] State.reset ∧ (19 : Byte).toNat = (19 : Channel).val ∧ Served 15 38 [255] State.reset
      ∧ Served 15 38 [20] State.reset ∧ 19 < (20 : Byte).toNat ∧ (20 : Byte) ≠ 255 :=
  ⟨by decide +kernel, by decide +kernel, by decide +kernel, by decide +kernel, by decide +kernel, by decide +kernel,
    serving_serves .., serving_serves .., serving_serves .., by decide, by decide, serving_serves .., by decide,
    serving_serves .., serving_serves .., by decide, by decide⟩

/-- The first read of the first scan, and the last read of a scan; a STALE, a FRESH and a DISABLED reading. -/
theorem witness_ChannelReadJudged :
    State.reset.ssc.scan = some ⟨.periodic, indexes 20, indexes 20, 2⟩ ∧ indexes 20 = 0 :: (indexes 20).tail
      ∧ (indexes 20).tail ≠ []
      ∧ ({ State.reset with ssc := { State.reset.ssc with scan := some ⟨.sync, [19], [19], 0⟩ } }).ssc.scan
          = some ⟨.sync, [19], [19], 0⟩
      ∧ (State.reset.reading 19).state ≠ .disabled
      ∧ (let stale := { State.reset with ssc := { State.reset.ssc with readings := put State.reset.ssc.readings 0 ⟨.stale, some 1, 3⟩ } }
        (stale.reading 0).state = .stale)
      ∧ (let off := { State.reset with ssc := { State.reset.ssc with readings := put State.reset.ssc.readings 0 ⟨.disabled, none, 0⟩ } }
        (off.reading 0).state = .disabled) := by decide +kernel

theorem witness_ZoneCurveSet :
    (3 : Byte).toNat = (3 : ZoneId).val ∧ Served 14 81 [] State.reset ∧ 3 < (4 : Byte).toNat
      ∧ (let c : Vector PointArg 4 := tabulate fun n => ⟨(n.val : Int) * 50, 255⟩
        (∀ n, -40 ≤ (c.get n).t ∧ (c.get n).t ≤ 150 ∧ (c.get n).d ≤ 255)
          ∧ ∀ n : Fin 3, (c.get n.castSucc).t < (c.get n.succ).t ∧ (c.get n.castSucc).d ≤ (c.get n.succ).d)
      ∧ (let flat : Vector PointArg 4 := tabulate fun _ => ⟨-40, 0⟩
        ¬ ∀ n : Fin 3, (flat.get n.castSucc).t < (flat.get n.succ).t) :=
  ⟨by decide, serving_serves .., by decide, by decide +kernel⟩

theorem witness_ZoneLimitsSet :
    (3 : Byte).toNat = (3 : ZoneId).val ∧ Served 14 82 [] State.reset ∧ 3 < (4 : Byte).toNat :=
  ⟨by decide, serving_serves .., by decide⟩

theorem witness_CurveIsMonotoneThroughItsPoints :
    ∀ n : Fin 3, (coldZone.curve.get n.castSucc).t < (coldZone.curve.get n.succ).t
      ∧ (coldZone.curve.get n.castSucc).d ≤ (coldZone.curve.get n.succ).d := by decide +kernel

/-- A delivery waits; a FRESH exhaust at its critical temperature trips, one below it does not; zones 0, 2 and 3 have no fan, and
at a raw demand of 255 they are saturated, and zone 1 is not while a RUNNING fan is commanded below 255. -/
theorem witness_ControlStepZones :
    let s := { twoFans with ssc := { twoFans.ssc with toClc := [warmDelivery] } }
    s.ssc.toClc = warmDelivery :: [] ∧ s.clc.trip = false ∧ (warmDelivery.get (exhaustIndex 1)).state = .fresh
      ∧ (warmDelivery.get (exhaustIndex 1)).value = some 40 ∧ (s.zone 1).limits.critical = 85
      ∧ (∀ b ∈ fansOfZone 0, (s.fan b).state = .absent)
      ∧ (s.zone 0).duty = 160 ∧ (s.zone 1).duty = 140
      ∧ (let hot := (s.modZone 0 fun z => { z with limits := { z.limits with floorDuty := 255 } }).modZone 1 fun z =>
          { z with limits := { z.limits with floorDuty := 255 } }
        seen (exec .controlStep hot) (fun t => ((t.zone 0).rawDemand, (t.zone 0).saturation, (t.zone 1).rawDemand,
          (t.fan 2).state, (hot.fan 2).command, (t.zone 1).saturation)) = some (255, 1, 255, .running, 140, 0)) := by
  decide +kernel

/-- Fans of type 3 in bays 6 and 7, the one in bay 7 under characterisation, and a delivery waiting. -/
def trialInBay7 : State :=
  let s := (seen (exec (.fanStrapChange 6 3) furnished) id).getD furnished
  let s := (seen (exec (.characteriseFan 7) (serving 14 83 [7] s)) id).getD s
  { s with ssc := { s.ssc with toClc := [warmDelivery] } }

theorem trialInBay7_sound : FansSound trialInBay7 := by
  have h : trialInBay7.clc.search = some ⟨7, fanMinRpm 3, 7, 0, 128, 3000⟩ := by decide +kernel
  refine ⟨by decide +kernel, fun c hc => ?_⟩
  cases h.symm.trans hc
  decide +kernel

/-- A fan to be judged, an ABSENT one, and one whose search goes on, or is aborted as its partner enters FAILED. -/
theorem witness_ControlStepFans :
    trialInBay7.ssc.toClc = warmDelivery :: [] ∧ FansSound trialInBay7 ∧ (trialInBay7.fan 6).state = .running
      ∧ (trialInBay7.fan 0).state = .absent ∧ (trialInBay7.fan 6).rpm < fanMinRpm (trialInBay7.fan 6).type
      ∧ (trialInBay7.fan 7).state = .characterising ∧ (trialInBay7.fan 7).prior = some .running
      ∧ seen (exec .controlStep trialInBay7) (fun t => ((t.fan 7).state, (t.fan 6).failCount)) = some (.characterising, 1)
      ∧ seen (exec .controlStep (trialInBay7.modFan 6 fun r => { r with failCount := 2 }))
          (fun t => ((t.fan 7).state, (t.fan 7).result, (t.fan 6).state)) = some (.running, .aborted, .failed) :=
  ⟨rfl, trialInBay7_sound, by decide +kernel⟩

theorem witness_TripAndFanFaultCleared :
    State.reset.clc.trip = false ∧ ({ State.reset with clc := { State.reset.clc with trip := true } }).clc.trip = true
      ∧ State.reset.lines.tripInput = false ∧ (∀ z, (State.reset.reading (exhaustChannel z)).state ≠ .fresh)
      ∧ ((listening State.reset).port 13).selected.getLsbD 9 = true
      ∧ Served 14 86 [] State.reset ∧ Served 14 85 [7] State.reset ∧ (7 : Byte).toNat = (7 : FanBay).val
      ∧ ((twoFans.modFan 3 fun r => { r with state := .failed }).fan 3).state = .failed
      ∧ Served 14 85 [8] State.reset ∧ 7 < (8 : Byte).toNat :=
  ⟨by decide +kernel, by decide +kernel, by decide +kernel, by decide +kernel, by decide +kernel, serving_serves ..,
    serving_serves .., by decide, by decide +kernel, serving_serves .., by decide⟩

theorem witness_CharacterisationSearch :
    Served 14 83 [2] twoFans ∧ (2 : Byte).toNat = (2 : FanBay).val ∧ twoFans.clc.search = none
      ∧ (twoFans.fan 2).state = .running ∧ (twoFans.fan (partner 2)).state = .running ∧ twoFans.clc.trip = false
      ∧ (searching 7 0 128 0).clc.search = some ⟨2, 1500, 7, 0, 128, 0⟩ ∧ ((searching 7 0 128 0).fan 2).state = .characterising
      ∧ ((searching 0 254 255 0).fan 2).rpm < 1500 ∧ Served 14 84 [] (searching 7 0 128 0)
      ∧ ((searching 7 0 128 0).fan 2).prior = some .running
      ∧ Served 14 83 [8] State.reset ∧ 7 < (8 : Byte).toNat :=
  ⟨serving_serves .., by decide, by decide +kernel, by decide +kernel, by decide +kernel, by decide +kernel, by decide +kernel,
    by decide +kernel, by decide +kernel, serving_serves .., by decide +kernel, serving_serves ..,
    by decide⟩

theorem witness_FanStrapsAndTachometers :
    heldType State.reset 7 = 0 ∧ heldType furnished 7 = 3 ∧ heldType furnished 7 ≠ 0
      ∧ State.reset.record (fanRecord 7) = ⟨.absent, .none, none⟩
      ∧ (State.reset.fan 7).state = .absent ∧ (twoFans.fan 2).state ≠ .absent ∧ twoFans.clc.captures.get 2 = none
      ∧ ({ twoFans with clc := { twoFans.clc with captures := put twoFans.clc.captures 2 (some 65535) } }).clc.captures.get 2
          = some 65535 := by decide +kernel

/-- Bay 0 UP and full, with lane 0 bound to it and lane 2 on its way; bay 1 DOWN with its hold at the end, listed first by lane 0;
lane 4 waiting for bay 0; and the read of bay 0's module in flight. -/
def lanesUp : State :=
  let s := powered 0 .on 1 100 100 (powered 1 .on 1 100 100 (powered 2 .on 1 100 100 (supplied 1000 State.reset)))
  let up : BayRec → BayRec := fun r => { r with present := true, linkUp := true, power := true, fabric := 1 }
  let s := (s.modBay 0 fun r => { up r with state := .up, capacity := 2, bound := 1, movingIn := 1 }).modBay 1 fun r =>
    { up r with state := .down, capacity := 1, hold := some 0 }
  let s := ((s.modLane 0 fun r => { r with fabric := 1, pref := [1, 0], state := .bound 0 }).modLane 2 fun r =>
    { r with fabric := 1, state := .moving 0 20 }).modLane 4 fun r => { r with fabric := 1, pref := [0], state := .waiting }
  let s := s.modRecord 28 fun _ => ⟨.reading, .inFlight, none⟩
  { s with lxc := { s.lxc with waitList := [4], failback := true }, inv := { s.inv with readList := [28], readLeft := some 100 } }

theorem lanesUp_sequencer_sound : SequencerSound lanesUp := by
  have free : lanesUp.psq.resource = .free := by decide +kernel
  refine ⟨by decide +kernel, fun i src => ?_, by decide +kernel, by decide +kernel, fun i n l h => ?_, fun i n l h => ?_,
    by decide +kernel⟩
  · cases src <;> revert i <;> decide +kernel
  · exact nomatch free.symm.trans h
  · exact nomatch free.symm.trans h

theorem lanesUp_budget_sound : BudgetSound lanesUp := by
  refine ⟨?_, ?_, ?_, ?_, ?_, ?_, ?_, ?_⟩ <;> decide +kernel

theorem lanesUp_lanes_sound : LanesSound lanesUp := by
  refine ⟨?_, ?_, ?_, ?_, ?_, ?_, ?_⟩ <;> decide +kernel

theorem witness_LanesSoundKeptByEveryStep :
    SequencerSound lanesUp ∧ LanesSound lanesUp ∧ lanesUp.lxc.waitList = [4] ∧ (lanesUp.lane 2).state = .moving 0 20
      ∧ step lanesUp = .next (tick lanesUp) :=
  ⟨lanesUp_sequencer_sound, lanesUp_lanes_sound, by decide +kernel, by decide +kernel, rfl⟩

/-- A lane with room at its first bay and one with none; an UP bay with lanes; blocks of another fabric and of a smaller
capacity; a DOWN bay that a bound lane lists before its own. The precharge is that of `witness_InrushTimersExpire`. -/
theorem witness_LanesPlaced :
    (((laneWaits 1).lane 0).pref = [] ++ 0 :: ((laneWaits 1).lane 0).pref.tail ∧ ((laneWaits 1).bay 0).state = .up
      ∧ ((laneWaits 1).bay 0).fabric = ((laneWaits 1).lane 0).fabric
      ∧ ((laneWaits 1).bay 0).bound + ((laneWaits 1).bay 0).movingIn < ((laneWaits 1).bay 0).capacity
      ∧ (∀ b, ¬ ((laneWaits 0).bay b).bound + ((laneWaits 0).bay b).movingIn < ((laneWaits 0).bay b).capacity))
    ∧ (SequencerSound lanesUp ∧ LanesSound lanesUp ∧ BudgetSound lanesUp ∧ (lanesUp.bay 0).state = .up)
    ∧ (lanesUp.inv.readList.head? = some (uplinkRecord 0) ∧ lanesUp.inv.readLeft ≠ none ∧ (lanesUp.bay 0).fabric = 1
      ∧ (lanesUp.bay 0).capacity = 2
      ∧ heardBlock ((uplinkBlock.set 6 2).set 10 156) = some ((uplinkBlock.set 6 2).set 10 156)
      ∧ judgeBlock (.uplink 0) ((uplinkBlock.set 6 2).set 10 156) = (.identified, some (.uplink ⟨⟨1, 1, [65]⟩, 2, 4, 120⟩))
      ∧ heardBlock ((uplinkBlock.set 7 1).set 10 160) = some ((uplinkBlock.set 7 1).set 10 160)
      ∧ judgeBlock (.uplink 0) ((uplinkBlock.set 7 1).set 10 160) = (.identified, some (.uplink ⟨⟨1, 1, [65]⟩, 1, 1, 120⟩)))
    ∧ (lanesUp.bay 1).state = .down ∧ (lanesUp.bay 1).hold ≠ none ∧ lanesUp.lxc.failback = true
      ∧ (lanesUp.lane 0).state = .bound 0 ∧ (1 : UplinkBay) ∈ (lanesUp.lane 0).pref
      ∧ (lanesUp.lane 0).pref.idxOf 1 < (lanesUp.lane 0).pref.idxOf 0 ∧ (lanesUp.bay 1).fabric = (lanesUp.lane 0).fabric :=
  ⟨by decide +kernel, ⟨lanesUp_sequencer_sound, lanesUp_lanes_sound, lanesUp_budget_sound, by decide +kernel⟩,
    by decide +kernel, by decide +kernel⟩

theorem witness_BayLinesFollowed :
    (State.reset.bay 3).state = .absent ∧ State.reset.record (uplinkRecord 3) = ⟨.absent, .none, none⟩
      ∧ uplinkRecord 3 ∉ State.reset.inv.readList ∧ (laneMoves.bay 0).state = .up ∧ laneBay (laneMoves.lane 0) = some 0
      ∧ (∀ l, laneBay ((laneWaits 1).lane l) ≠ some 0) := by decide +kernel

theorem witness_LinkLinesFollowed :
    let down := (laneWaits 1).modBay 0 fun r => { r with state := .down, hold := none }
    (down.bay 0).state = .down ∧ (down.bay 0).hold = none ∧ down.lxc.linkHold ≠ 0
      ∧ ({ down with lxc := { down.lxc with linkHold := 0 } }).lxc.linkHold = 0 ∧ (laneMoves.bay 0).state = .up
      ∧ ((down.modBay 0 fun r => { r with hold := some 0 }).bay 0).hold ≠ none := by decide +kernel

theorem witness_MovesCompleteAndRescansExhaustRoom :
    (laneMoves.lane 0).state = .moving 0 0 ∧ 0 ∈ (laneMoves.lane 0).pref
      ∧ 0 ∉ ((laneMoves.modLane 0 fun r => { r with pref := [2] }).lane 0).pref
      ∧ 0 ∈ (rescan (laneWaits 0)).lxc.waitList ∧ 0 ∈ ((rescan (laneWaits 0)).lane 0).pref := by decide +kernel

theorem witness_LaneRequestsTaken :
    (27 : Byte).toNat = (27 : LaneId).val
      ∧ (∀ (count : Byte) (bays : Vector Byte 4), Served 14 89 (27 :: count :: bays.toList) State.reset)
      ∧ (let named := ((tabulate fun n => BitVec.ofNat 8 n.val : Vector Byte 4).toList.take 4).map (·.toNat)
        (∀ n ∈ named, n ≤ 3) ∧ named.Nodup)
      ∧ ((laneMoves.modLane 0 fun r => { r with state := .bound 0 }).lane 0).state = .bound 0
      ∧ Served 14 90 [] State.reset ∧ (0x0FFFFFFF#32).toNat < 2 ^ 28 ∧ 2 ^ 28 ≤ (0x10000000#32).toNat
      ∧ Served 14 91 [] State.reset ∧ (∀ h : BitVec 16, Served 14 92 (bytes2 h.toNat) State.reset)
      ∧ (∀ m : Byte, Served 14 93 [m] State.reset) ∧ 27 < (28 : Byte).toNat
      ∧ ∀ (count : Byte) (bays : Vector Byte 4), Served 14 89 (28 :: count :: bays.toList) State.reset :=
  ⟨by decide, fun _ _ => serving_serves .., by decide +kernel, by decide +kernel, serving_serves .., by decide, by decide,
    serving_serves .., fun _ => serving_serves .., fun _ => serving_serves .., by decide,
    fun _ _ => serving_serves ..⟩

/-- Reads of a supply and of an uplink module in flight, alone and with another behind. -/
theorem witness_IdentityReadsEnd :
    (reading (.supplyPresentAsserted 5)).inv.readList = [19] ∧ (reading (.supplyPresentAsserted 5)).inv.readLeft = some 100
      ∧ readable (positionOf 19) = true ∧ ((reading (.supplyPresentAsserted 5)).supply 5).state = .unidentified
      ∧ (reading (.uplinkPresentAsserted 3)).inv.readList = [31] ∧ readable (positionOf 31) = true
      ∧ ((reading (.uplinkPresentAsserted 3)).bay 3).state = .identifying ∧ headerGood 0xA1 17 = false
      ∧ ((seen (exec (.uplinkPresentAsserted 3) (reading (.supplyPresentAsserted 5))) id).getD State.reset).inv.readList
          = [19, 31]
      ∧ heardBlock supplyBlock = some supplyBlock ∧ heardBlock (supplyBlock.take 8) = none ∧ Settled State.reset
      ∧ supplyBlock.length = blockLength (supplyBlock.getD 0 0) (supplyBlock.getD 4 0) ∧ 5 ≤ supplyBlock.length
      ∧ headerGood (supplyBlock.getD 0 0) (supplyBlock.getD 4 0) = true
      ∧ headerGood ((supplyBlock.set 0 0).getD 0 0) ((supplyBlock.set 0 0).getD 4 0) = false := by
  unfold Settled
  decide +kernel

theorem witness_BlocksJudgedAndRereadsQueued :
    ((supplyBlock.map (·.toNat)).sum % 256 = 0 ∧ (uplinkBlock.map (·.toNat)).sum % 256 = 0)
      ∧ supplyBlock = [0xA1] ++ bytes2 1 ++ [1, BitVec.ofNat 8 1] ++ [65] ++ bytes2 2000 ++ [68]
      ∧ uplinkBlock = [0xA2] ++ bytes2 1 ++ [1, BitVec.ofNat 8 1] ++ [65] ++ [1, 4] ++ bytes2 120 ++ [157]
      ∧ (∀ b : Byte, Served 14 94 [b] State.reset) ∧ 31 < (32 : Byte).toNat ∧ (28 : Byte).toNat = (28 : RecNo).val
      ∧ (State.reset.record 28).state = .absent ∧ ((reading (.supplyPresentAsserted 5)).record 19).read ≠ .none
      ∧ (let s := State.reset.modRecord 14 fun _ => ⟨.unreadable, .none, none⟩
        (s.record 14).state ≠ .absent ∧ (s.record 14).read = .none ∧ (14 : RecNo) ∉ s.inv.readList) :=
  ⟨by decide +kernel, by decide +kernel, by decide +kernel, fun _ => serving_serves .., by decide, by decide, by decide +kernel,
    by decide +kernel, by decide +kernel⟩

/-- Frames of every fate: a bad check; at an IDLE port an unknown kind, a wrong length and a good request; at a WAITING port. -/
theorem witness_FramesArriveAndAnswersAreSent :
    (List.replicate 60 (0 : Byte)).length ≤ 60 ∧ (0x43 : Byte) ≠ crc8 [17, 0] ∧ (0x42 : Byte) = crc8 [17, 0]
      ∧ (State.reset.port 15).state = .idle ∧ (State.reset.port 15).tx = [] ∧ authorityOf 100 = none ∧ authorityOf 17 ≠ none
      ∧ lengthAllowed 17 [0] = false ∧ lengthAllowed 17 [] = true ∧ (threeWait.port 14).state ≠ .idle
      ∧ ((State.reset.modPort 15 fun r => { r with tx := [.busy 1] }).port 15).tx = [.busy 1] ∧ 60 < (61 : Byte).toNat
      ∧ ((State.reset.modPort 15 fun r => { r with tx := [.response ⟨17, .done, .empty⟩] }).port 15).tx
        = .response ⟨17, .done, .empty⟩ :: [] ∧ State.reset.lnk.engine ≠ .restarting 15
      ∧ ((State.reset.modPort 0 fun r => { r with tx := [.busy 17] }).port 0).tx = .busy 17 :: [] := by
  decide +kernel

/-- By the table (port 14), by HIGH round-robin (port 15), by LOW round-robin (port 3). -/
theorem witness_TakeServesOnePort :
    threeWait.lnk.engine = .free ∧ (threeWait.port 14).held = some ⟨17, []⟩ ∧ authorityOf 17 ≠ none
      ∧ (threeWait.lnk.bank0.get 0).vacant = false ∧ (threeWait.lnk.bank0.get 0).port = 14 ∧ (threeWait.port 14).state = .waiting
      ∧ (let s := { threeWait with lnk := { threeWait.lnk with pointer := 15, swapPending := true } }
        (s.lnk.bank0.get 15).vacant = true ∧ (s.port 14).cls = .high
          ∧ ∀ q, (s.port q).state = .waiting → (s.port q).cls = .high → ((14 : Port) - 15 - 1).val ≤ (q - 15 - 1).val)
      ∧ (let s := { threeWait.modPort 14 (fun r => { r with state := .idle, held := none }) with lnk :=
          { (threeWait.modPort 14 (fun r => { r with state := .idle, held := none })).lnk with pointer := 1 } }
        (s.port 3).held = some ⟨17, []⟩ ∧ (s.port (s.lnk.bank0.get 1).port).state = .idle
          ∧ (∀ q, (s.port q).state = .waiting → (s.port q).cls = .low)
          ∧ ∀ q, (s.port q).state = .waiting → ((3 : Port) - 15 - 1).val ≤ (q - 15 - 1).val) := by decide +kernel

theorem witness_PrimacyAndServiceTable :
    (∀ (c : Supervisor) (period : Option Byte), Served (supervisorPort c) 42 period.toList State.reset)
      ∧ State.reset.lnk.holder = none ∧ primaryA.lnk.holder = some .a ∧ primaryA.lnk.holder ≠ some .b
      ∧ (∀ c, Served (supervisorPort c) 43 [] primaryA)
      ∧ (let entries : List EntryArg := List.replicate 16 ⟨15, false, false⟩
        1 ≤ entries.length ∧ entries.length ≤ 16 ∧ (List.replicate 33 (0 : Byte)).length = 1 + 2 * entries.length
          ∧ ∀ e ∈ entries, e.vacant = false → e.port.toNat ≤ 15)
      ∧ Served 14 95 (List.replicate 33 0) primaryA ∧ (1 : Byte).toNat ≤ 1 ∧ (1 : Byte).toNat ≠ primaryA.lnk.selectedBank.val
      ∧ (0 : Byte).toNat = primaryA.lnk.selectedBank.val ∧ ¬ (2 : Byte).toNat ≤ 1 ∧ primaryA.lnk.swapPending = false
      ∧ ({ primaryA with lnk := { primaryA.lnk with swapPending := true } }).lnk.swapPending = true
      ∧ Served 14 96 [] primaryA ∧ ∀ high : BitVec 16, Served 14 97 (bytes2 high.toNat) primaryA :=
  ⟨fun _ _ => serving_serves .., by decide +kernel, by decide +kernel, by decide +kernel, fun _ => serving_serves ..,
    by decide +kernel, serving_serves .., by decide, by decide +kernel, by decide +kernel, by decide, by decide +kernel,
    by decide +kernel, serving_serves .., fun _ => serving_serves ..⟩

theorem witness_NoticeRequestsServed :
    (∀ set clear : BitVec 16, Served 13 16 (bytes2 set.toNat ++ bytes2 clear.toNat) State.reset)
      ∧ Served 15 17 [] noticed ∧ ∀ ports : BitVec 16, Served 14 98 (bytes2 ports.toNat) State.reset :=
  ⟨fun _ _ => serving_serves .., serving_serves .., fun _ => serving_serves ..⟩

/-- A warm reset of a chassis that is not idle, by the reset input; the lines at which no difference is found. -/
theorem witness_WarmResetTable :
    let s := { lanesUp with lnk := { lanesUp.lnk with resetMeasure := some 999 } }
    let l := { idleLines with presence := 7, uplinkPresent := 3, linkUp := 3, supplyPresent := 1, outputGood := 1 }
    s.lnk.resetMeasure ≠ none ∧ (∃ t, exec (.resetInputDeasserted l) s = .next t) ∧ SlotsSound s ∧ SequencerSound s
      ∧ BudgetSound s ∧ FloorsCovered s ∧ LanesSound s ∧ ReadListSound s
      ∧ (∀ i : SlotId, l.presence.getLsbD i = (s.slot i).presence ∧ ((s.slot i).state = .empty → l.presence.getLsbD i = false))
      ∧ (∀ b : UplinkBay, l.uplinkPresent.getLsbD b = (s.bay b).present ∧ l.linkUp.getLsbD b = (s.bay b).linkUp
        ∧ l.moduleFault.getLsbD b = (s.bay b).moduleFault)
      ∧ (s.slot 0).state = .on ∧ (s.slot 13).state = .empty ∧ (s.lane 2).state = .moving 0 20 := by
  intro s l
  refine ⟨by decide +kernel, ⟨_, rfl⟩, ?_, ?_, ?_, ?_, ?_, ?_, by decide +kernel⟩
  · refine ⟨?_, ?_, ?_, ?_⟩ <;> decide +kernel
  · exact ⟨lanesUp_sequencer_sound.1, lanesUp_sequencer_sound.2, lanesUp_sequencer_sound.3, lanesUp_sequencer_sound.4,
      lanesUp_sequencer_sound.5, lanesUp_sequencer_sound.6, lanesUp_sequencer_sound.7⟩
  · exact ⟨lanesUp_budget_sound.1, lanesUp_budget_sound.2, lanesUp_budget_sound.3, lanesUp_budget_sound.4,
      lanesUp_budget_sound.5, lanesUp_budget_sound.6, lanesUp_budget_sound.7, lanesUp_budget_sound.8⟩
  · unfold FloorsCovered; decide +kernel
  · exact ⟨lanesUp_lanes_sound.1, lanesUp_lanes_sound.2, lanesUp_lanes_sound.3, lanesUp_lanes_sound.4,
      lanesUp_lanes_sound.5, lanesUp_lanes_sound.6, lanesUp_lanes_sound.7⟩
  · unfold ReadListSound; decide +kernel

theorem witness_ResetsAndRestart :
    State.reset.lnk.resetMeasure = none
      ∧ ({ State.reset with lnk := { State.reset.lnk with resetMeasure := some 999 } }).lnk.resetMeasure ≠ none
      ∧ Served 14 99 [] primaryA
      ∧ (let s := { primaryA with lnk := { primaryA.lnk with
          engine := .restarting 14, ports := put primaryA.lnk.ports 14 { primaryA.port 14 with tx := [.response ⟨99, .done, .empty⟩] } } }
        s.lnk.engine = .restarting 14 ∧ (s.port 14).tx = .response ⟨99, .done, .empty⟩ :: []) :=
  ⟨by decide +kernel, by decide +kernel, serving_serves .., by decide +kernel⟩

end Sys2Proof.Tests
end

section
/-! The proportional split of a tier that asks more than the extra left (R66): first the arithmetic of rounded-down shares over any
list, then the model's `share`, `luckySlots` and `distributedCap` in such a tier, then the statement. -/

namespace Sys2Proof.TierSplit

open Sys2Proof.Machine

/-! ### Shares rounded down, over any list -/

section Shares

variable {α : Type} (a : α → Nat) (E : Nat) (l : List α)

theorem mul_sum_share_le (W : Nat) : W * (l.map fun i => a i * E / W).sum ≤ (l.map a).sum * E := by
  induction l with
  | nil => simp
  | cons x xs ih =>
    have head : W * (a x * E / W) ≤ a x * E := Nat.mul_div_le ..
    simp only [List.map_cons, List.sum_cons, Nat.mul_add, Nat.add_mul]
    omega

/-- Each positive ask loses less than one watt to rounding: `a * E + 1 ≤ W * (a * E / W + 1)`, summed. -/
theorem sum_mul_add_askers_le {W : Nat} (hW : 0 < W) :
    (l.map a).sum * E + (l.filter fun i => 0 < a i).length
      ≤ W * ((l.map fun i => a i * E / W).sum + (l.filter fun i => 0 < a i).length) := by
  induction l with
  | nil => simp
  | cons x xs ih =>
    rcases Nat.eq_zero_or_pos (a x) with hx | hx
    · simpa [hx] using ih
    · have head : a x * E < W * (a x * E / W + 1) := Nat.lt_mul_div_succ _ hW
      simp only [List.map_cons, List.sum_cons, List.filter_cons, hx, decide_true, if_true, List.length_cons, Nat.mul_add,
        Nat.add_mul] at ih head ⊢
      omega

theorem sum_share_le {W : Nat} (hW : 0 < W) (asked : (l.map a).sum = W) : (l.map fun i => a i * E / W).sum ≤ E :=
  Nat.le_of_mul_le_mul_left (asked ▸ mul_sum_share_le a E l W) hW

theorem askers_pos (asked : 0 < (l.map a).sum) : 0 < (l.filter fun i => 0 < a i).length := by
  obtain ⟨n, hn, hpos⟩ := List.exists_mem_ne_zero_of_sum_ne_zero asked.ne'
  obtain ⟨i, hi, rfl⟩ := List.mem_map.1 hn
  exact List.length_pos_of_mem (List.mem_filter.2 ⟨hi, by simpa using Nat.pos_of_ne_zero hpos⟩)

theorem lt_sum_share_add_askers {W : Nat} (hW : 0 < W) (asked : (l.map a).sum = W) :
    E < (l.map fun i => a i * E / W).sum + (l.filter fun i => 0 < a i).length := by
  have total := sum_mul_add_askers_le a E l hW
  have some_asker := askers_pos a l (asked ▸ hW)
  rw [asked] at total
  exact Nat.lt_of_mul_lt_mul_left (Nat.lt_of_lt_of_le (Nat.lt_add_of_pos_right some_asker) total)

end Shares

theorem share_lt {a E W : Nat} (ha : 0 < a) (short : E < W) : a * E / W < a :=
  Nat.div_lt_of_lt_mul (Nat.mul_comm W a ▸ Nat.mul_lt_mul_of_pos_left short ha)

/-- One each to the entries of `taken`, summed over a list without repeats that holds them, is the number of them. -/
theorem sum_indicator_of_sublist {α : Type} [DecidableEq α] {taken l : List α} (sub : taken.Sublist l) (nodup : l.Nodup) :
    (l.map fun i => if i ∈ taken then 1 else 0).sum = taken.length := by
  have same : l.toFinset.filter (· ∈ taken) = taken.toFinset := by
    ext i
    simpa using fun h => sub.subset h
  rw [← List.sum_toFinset _ nodup, Finset.sum_boole, same, List.toFinset_card_of_nodup (nodup.sublist sub), Nat.cast_id]

/-! ### The members of a tier and what they ask -/

variable {s : State} {t : Fin 4} {i : SlotId}

theorem tier_of_mem (h : i ∈ tierMembers s t) : (s.slot i).tier = t := by
  simp only [tierMembers, List.mem_filter, Bool.and_eq_true, beq_iff_eq] at h
  exact h.2.2

theorem tierMembers_nodup (s : State) (t : Fin 4) : (tierMembers s t).Nodup := (List.nodup_finRange 14).filter _

theorem floor_add_asks (s : State) (i : SlotId) : s.floor i + asks s i = effective s i :=
  Nat.add_sub_of_le (Nat.le_add_right ..)

theorem asks_pos_iff : 0 < asks s i ↔ s.floor i < effective s i := Nat.sub_pos_iff_lt

/-- The slots of a tier with e > f (R66). -/
def askers (s : State) (t : Fin 4) : List SlotId := (tierMembers s t).filter fun i => s.floor i < effective s i

theorem askers_eq (s : State) (t : Fin 4) : askers s t = (tierMembers s t).filter fun i => 0 < asks s i := by
  simp only [askers, asks_pos_iff]

/-! ### The split of R66 in the model's words -/

theorem share_of_mem (E : Nat) (h : i ∈ tierMembers s t) : share s E i = asks s i * E / tierWant s t := by
  rw [share, tier_of_mem h]

theorem sum_share (s : State) (E : Nat) (t : Fin 4) :
    sumOf (share s E) (tierMembers s t) = ((tierMembers s t).map fun i => asks s i * E / tierWant s t).sum :=
  congrArg List.sum (List.map_congr_left fun _ h => share_of_mem E h)

theorem luckySlots_eq (s : State) (E : Nat) (t : Fin 4) :
    luckySlots s E t = (askers s t).take (E - sumOf (share s E) (tierMembers s t)) := by
  rw [luckySlots, askers_eq]

theorem luckySlots_sublist (s : State) (E : Nat) (t : Fin 4) : (luckySlots s E t).Sublist (tierMembers s t) :=
  (List.take_sublist ..).trans List.filter_sublist

theorem asks_pos_of_lucky {E : Nat} (h : i ∈ luckySlots s E t) : 0 < asks s i := by
  have asker : i ∈ askers s t := List.mem_of_mem_take (luckySlots_eq s E t ▸ h)
  exact asks_pos_iff.2 (by simpa using (List.mem_filter.1 asker).2)

section Short

variable (short : extraBefore s t < tierWant s t)
include short

theorem distributedCap_of_short (h : i ∈ tierMembers s t) :
    distributedCap s i
      = s.floor i + share s (extraBefore s t) i + (if i ∈ luckySlots s (extraBefore s t) t then 1 else 0) := by
  simp only [distributedCap, tier_of_mem h, Nat.not_le.2 short, if_false, List.contains_iff_mem]

theorem share_add_bonus_le (h : i ∈ tierMembers s t) :
    share s (extraBefore s t) i + (if i ∈ luckySlots s (extraBefore s t) t then 1 else 0) ≤ asks s i := by
  rw [share_of_mem _ h]
  rcases Nat.eq_zero_or_pos (asks s i) with none_asked | asked
  · have not_lucky : i ∉ luckySlots s (extraBefore s t) t := fun lucky => (asks_pos_of_lucky lucky).ne' none_asked
    simp [none_asked, not_lucky]
  · have below := share_lt asked short
    split <;> omega

theorem floor_le_distributedCap_le (h : i ∈ tierMembers s t) :
    s.floor i ≤ distributedCap s i ∧ distributedCap s i ≤ effective s i := by
  have cap := distributedCap_of_short short h
  have gain := share_add_bonus_le short h
  have top := floor_add_asks s i
  omega

theorem sum_share_le_extra : sumOf (share s (extraBefore s t)) (tierMembers s t) ≤ extraBefore s t := by
  rw [sum_share]
  exact sum_share_le _ _ _ (Nat.zero_lt_of_lt short) rfl

theorem leftover_lt_askers :
    extraBefore s t - sumOf (share s (extraBefore s t)) (tierMembers s t) < (askers s t).length := by
  have bound := lt_sum_share_add_askers (asks s) (extraBefore s t) (tierMembers s t) (Nat.zero_lt_of_lt short) rfl
  have within := sum_share_le_extra short
  rw [← askers_eq] at bound
  rw [sum_share] at within ⊢
  exact (Nat.sub_lt_iff_lt_add' within).2 bound

theorem luckySlots_length :
    (luckySlots s (extraBefore s t) t).length
      = extraBefore s t - sumOf (share s (extraBefore s t)) (tierMembers s t) := by
  rw [luckySlots_eq, List.length_take_of_le (leftover_lt_askers short).le]

theorem sum_distributedCap :
    ((tierMembers s t).map (distributedCap s)).sum = ((tierMembers s t).map s.floor).sum + extraBefore s t := by
  have within := sum_share_le_extra short
  calc ((tierMembers s t).map (distributedCap s)).sum
      = ((tierMembers s t).map fun i => s.floor i + share s (extraBefore s t) i
          + (if i ∈ luckySlots s (extraBefore s t) t then 1 else 0)).sum :=
        congrArg List.sum (List.map_congr_left fun _ h => distributedCap_of_short short h)
    _ = ((tierMembers s t).map s.floor).sum + sumOf (share s (extraBefore s t)) (tierMembers s t)
          + (luckySlots s (extraBefore s t) t).length := by
        rw [List.sum_map_add, List.sum_map_add, sum_indicator_of_sublist (luckySlots_sublist ..) (tierMembers_nodup s t), sumOf]
    _ = ((tierMembers s t).map s.floor).sum + extraBefore s t := by
        rw [luckySlots_length short]
        omega

end Short

/-- Settles O33: in a tier that asks more than the extra, the rounded-down shares spend at most the extra and fall short of it by
less than one watt for each slot with e > f. -/
theorem tierSplitSpendsTheExtra : Obligations.TierSplitSpendsTheExtra := by
  intro s t members ask W E share' L takers short
  have short : extraBefore s t < tierWant s t := short
  have leftover_eq : E - sumOf (share s E) members = L := congrArg (E - ·) (sum_share s E t)
  have lucky_eq : luckySlots s E t = takers := (luckySlots_eq s E t).trans (congrArg (askers s t).take leftover_eq)
  refine ⟨fun i h => ?_, leftover_eq ▸ leftover_lt_askers short, sum_distributedCap short⟩
  have cap := distributedCap_of_short short h
  rw [share_of_mem _ h] at cap
  obtain ⟨from_floor, to_top⟩ := floor_le_distributedCap_le short h
  exact ⟨lucky_eq ▸ cap, to_top, fun flat => Nat.le_antisymm (flat ▸ to_top) from_floor⟩

end Sys2Proof.TierSplit
end

section
/-! Set Zone Curve (R99): which reply a service of any payload gives and what it leaves, what a number byte names, when a curve
is refused, and the statement. -/

namespace Sys2Proof.ZoneCurve

open Sys2Proof.Machine

/-! ### What a number byte names (R1) -/

section Naming

variable {n : Nat} {b : Byte}

theorem nameOf_eq_some {i : Fin n} (h : b.toNat = i.val) : nameOf n b = some i := by
  simp [nameOf, h]

theorem nameOf_eq_none (h : n ≤ b.toNat) : nameOf n b = none := by
  simp [nameOf, h]

theorem naming_of_eq {i : Fin n} (h : b.toNat = i.val) (f : Fin n → State → State × Reply) (s : State) :
    naming n b f s = f i s := by
  simp only [naming, nameOf_eq_some h]

theorem naming_of_beyond (h : n ≤ b.toNat) (f : Fin n → State → State × Reply) (s : State) :
    naming n b f s = (s, reply .range) := by
  simp only [naming, nameOf_eq_none h]

end Naming

/-! ### A service of any payload whose work calls for no round (R167) -/

section Service

variable {s u : State} {p : Port} {kind : Byte} {held : List Byte} {f : Port → State → State × Reply} {r : Reply}

theorem servedPort_of_serving (serving : Serving s p kind held) : servedPort s kind anyPayload = some p := by
  obtain ⟨engine, request⟩ := serving
  simp [servedPort, engine, request, anyPayload]

theorem serve_of_clear (serving : Serving s p kind held) (work : f p (clearRound s) = (u, r))
    (clear : u.psq.roundDue = false) : serve kind anyPayload f s = .next (answer p kind r u) := by
  have settled : settle (answer p kind r u) = answer p kind r u := settle_of_clear (by simpa using clear)
  simp only [serve, servedPort_of_serving serving, work, settled]

theorem answer_of_silent_work (silent : u.lnk = s.lnk) : LinkEffect (some (p, kind, r)) [] s (answer p kind r u) :=
  answer_effect p kind r (.none_of_eq silent)

theorem serve_refuses {o : OutcomeCode} (serving : Serving s p kind held)
    (work : f p (clearRound s) = (clearRound s, reply o)) :
    ∃ t, serve kind anyPayload f s = .next t ∧ Refused p kind o s t :=
  ⟨_, serve_of_clear serving work rfl, (clearRound_only s).trans (answer_only ..), answer_of_silent_work rfl⟩

end Service

/-! ### The curves that are taken (R99) -/

/-- Four points each in range, t strictly increasing and d not falling. -/
def Proper (points : Vector PointArg 4) : Prop :=
  (∀ n, -40 ≤ (points.get n).t ∧ (points.get n).t ≤ 150 ∧ (points.get n).d ≤ 255)
    ∧ ∀ n : Fin 3, (points.get n.castSucc).t < (points.get n.succ).t ∧ (points.get n.castSucc).d ≤ (points.get n.succ).d

theorem toList_eq_entries {α : Type} (v : Vector α 4) : v.toList = [v.get 0, v.get 1, v.get 2, v.get 3] := by
  apply List.ext_getElem
  · simp
  · intro i hi _
    have below : i < 4 := by simpa using hi
    interval_cases i <;> rfl

/-- Both tests run over the four points and the three pairs of neighbours. -/
theorem curveWrong_eq_false_iff (points : Vector PointArg 4) : curveWrong points = false ↔ Proper points := by
  simp [curveWrong, Proper, toList_eq_entries, Fin.forall_fin_succ]

section SetZoneCurve

variable {s : State} {p : Port} {b : Byte} {held : List Byte} {points : Vector PointArg 4} {z : ZoneId}

theorem setCurve_of_proper (proper : Proper points) :
    setCurve points z s = (s.modZone z fun r => { r with curve := points.map fun q => ⟨q.t, q.d⟩ }, reply .done) := by
  simp [setCurve, (curveWrong_eq_false_iff points).2 proper]

theorem setCurve_of_not_proper (wrong : ¬ Proper points) :
    setCurve points z s = (s, reply .range) := by
  have refused : curveWrong points = true := by simpa using mt (curveWrong_eq_false_iff points).1 wrong
  simp [setCurve, refused]

theorem exec_setZoneCurve :
    exec (.setZoneCurve b points) s = serve 81 anyPayload (fun _ s => naming 4 b (setCurve points) s) s := rfl

/-- A curve is written by a change of its zone's record alone, and of nothing at LNK but the answer. -/
theorem proper_curve_written (serving : Serving s p 81 held) (named : b.toNat = z.val) (proper : Proper points) :
    ∃ t, exec (.setZoneCurve b points) s = .next t ∧ Only [.clc] s t
      ∧ t.clc = { s.clc with
          zones := put s.clc.zones z { s.zone z with curve := points.map fun q => ⟨q.t, q.d⟩ } }
      ∧ LinkEffect (some (p, 81, reply .done)) [] s t := by
  have work := (naming_of_eq named (setCurve points) (clearRound s)).trans (setCurve_of_proper proper)
  have written := modZone_only z (fun r => { r with curve := points.map fun q => ⟨q.t, q.d⟩ }) (clearRound s)
  have frame := ((clearRound_only s).mono (List.nil_subset _)).trans written
  exact ⟨_, exec_setZoneCurve.trans (serve_of_clear serving work rfl),
    frame.trans ((answer_only ..).mono (List.nil_subset _)), answer_clc .., answer_of_silent_work rfl⟩

theorem improper_curve_refused (serving : Serving s p 81 held) (named : b.toNat = z.val) (wrong : ¬ Proper points) :
    ∃ t, exec (.setZoneCurve b points) s = .next t ∧ Refused p 81 .range s t :=
  serve_refuses serving ((naming_of_eq named ..).trans (setCurve_of_not_proper wrong))

theorem unnamed_zone_refused (serving : Serving s p 81 held) (beyond : 3 < b.toNat) :
    ∃ t, exec (.setZoneCurve b points) s = .next t ∧ Refused p 81 .range s t :=
  serve_refuses serving (naming_of_beyond beyond ..)

end SetZoneCurve

/-- Settles O40: the model's test of a curve is that it is not proper, and a refusal comes before anything is written. -/
theorem zoneCurveSet : Obligations.ZoneCurveSet := by
  intro s p b held points serving
  refine ⟨fun z named => ?_, unnamed_zone_refused serving⟩
  split
  next proper => exact proper_curve_written serving named proper
  next wrong => exact improper_curve_refused serving named wrong

end Sys2Proof.ZoneCurve
end
